-- ==== Sys2Proof/Word.lean ====
section
/-! DEFINITION. The bit-vector types of the SPC block (00_scope.md R8, R12): every quantity is unsigned. -/

namespace Sys2Proof

/-- One bit, values 0 and 1. -/
abbrev Bit := BitVec 1

/-- One byte of the RX stream; bit 7 is the most significant (R12). -/
abbrev Byte := BitVec 8

/-- The 7-bit control code `b[6:0]` of a control-format byte (R60). -/
abbrev CtrlCode := BitVec 7

/-- A 6-bit duty level, 0 to 63 (R7). -/
abbrev Level := BitVec 6

/-- The 16-bit width of `current` and of the operand of `APPLY` (R8, R90). -/
abbrev Duty := BitVec 16

/-- A 32-bit timestamp in milliseconds (R8). -/
abbrev Timestamp := BitVec 32

end Sys2Proof
end

