-- ==== Sys2Proof/Config.lean ====
section
/-! DEFINITION. What is fixed before reset: the constants of 00_scope.md R7 to R9, the type of the open parameters of
R10, and the free values (constants with no body) of what the spec leaves open. -/

namespace Sys2Proof

/-- The realization of the PWM sequencer, chosen at build time (R10, R107). -/
inductive Variant where
  /-- A host-peripheral API: `CFG` once, `WR` per change (R108, R109). -/
  | A
  /-- Direct register programming: six ordered writes under an interrupt mask (R110). -/
  | B
  deriving DecidableEq, Repr, Inhabited

/-- The peripheral's answer to a command that reports (R13, R40). -/
inductive Answer where
  | ok
  | fail
  deriving DecidableEq, Repr, Inhabited

/-- The open parameters of R10, constants over a run (R28).
DESIGN CHOICE (log 4): they stand in State so that a claim can range over them. -/
structure Params where
  /-- `MAX_IDLE_TIME`, milliseconds, 0 to 2^32 − 1 (D10). -/
  maxIdleTime : Timestamp
  /-- `TICK_INTERVAL`, milliseconds, positive (D11); no rule depends on it. -/
  tickInterval : Nat
  /-- `PWM_FREQ_HZ`, positive (D12). -/
  pwmFreqHz : Nat
  /-- `PWM_PIN`, platform-defined (D12). -/
  pwmPin : Nat
  /-- `VARIANT` (D13). -/
  variant : Variant
  /-- `WGM_MODE`, platform-defined (D14). -/
  wgmMode : Nat
  /-- `TOP_VALUE`, platform-defined (D14). -/
  topValue : Nat
  deriving DecidableEq, Repr, Inhabited

/-- `R`, the PWM resolution in bits (R7). -/
def Config.resolution : Nat := 6

/-- `MAX_LEVEL = 2^R − 1` (R7). -/
def Config.maxLevel : Duty := BitVec.ofNat 16 (2 ^ Config.resolution - 1)

/-- `UNSET`, the sentinel outside `[0, MAX_LEVEL]` (R8, R11). -/
def Config.unset : Duty := 0xFFFF#16

/-- `FALLBACK_LEVEL = floor(MAX_LEVEL × 3 / 4)`, a constant (R9). -/
def Config.fallbackLevel : Duty := BitVec.ofNat 16 ((2 ^ Config.resolution - 1) * 3 / 4)

/-- The open parameters of the device at hand: R10 gives them no value. DESIGN CHOICE (log 4): a constant with no body. -/
opaque Config.params : Params

/-- `lastAppliedAt` after the n-th reset: unspecified, never zero by assumption (R22, R34, D8).
DESIGN CHOICE (log 5): a free value. -/
opaque Config.resetTimestamp : Nat → Timestamp

/-- The n-th value of `Now()` once `State.times` has run out (R30 (b), R53). DESIGN CHOICE (log 2): a free value. -/
opaque Config.freeTime : Nat → Timestamp

/-- The n-th answer of the peripheral once `State.answers` has run out (R30 (c)). DESIGN CHOICE (log 2): a free value. -/
opaque Config.freeAnswer : Nat → Answer

/-- The n-th batch of bytes the transport appends once `State.arrivals` has run out (R30 (a), R41).
DESIGN CHOICE (log 2): a free value. -/
opaque Config.freeArrival : Nat → List Byte

end Sys2Proof
end

