-- ==== Sys2Proof/Machine/Operands.lean ====
section
/-! DEFINITION. The operand forms: the slices of a byte that the decoder extracts (30_encoding.md R61), none
shifted, none sign-extended, and the zero extension of a level to the width of `current`. -/

namespace Sys2Proof.Machine

/-- `requestBit`, `b[7]` (R61, R126). -/
def requestBit (b : Byte) : Bit := b.extractLsb' 7 1

/-- `x`, the control code `b[6:0]` (R61). -/
def ctrlCode (b : Byte) : CtrlCode := b.extractLsb' 0 7

/-- `parityFlag`, `b[6]` (R61). -/
def parityFlag (b : Byte) : Bit := b.extractLsb' 6 1

/-- `l`, the level field `b[5:0]` (R61). -/
def levelField (b : Byte) : Level := b.extractLsb' 0 6

/-- `zext_8(l)`: the level as a byte, the operand of `PAR` (R125). -/
def zext8 (l : Level) : Byte := l.zeroExtend 8

/-- `zext_16(l)`: the level as the operand of `APPLY` (R61, R129). -/
def zext16 (l : Level) : Duty := l.zeroExtend 16

/-- `level[5:0]`: the six bits of a duty that the sequencer receives (R96, R105). -/
def dutyBits (d : Duty) : Level := d.extractLsb' 0 6

end Sys2Proof.Machine
end

