-- ==== Sys2Proof/Machine/Parity.lean ====
section
/-! DEFINITION. The Parity Codec: PAR, PARMASK, ENC and CHK (40_parity_codec.md R80 to R85). -/

namespace Sys2Proof.Machine

/-- `PAR_INV`, the parity polarity switch; 0 on this hardware: even parity (R11 (d), C1, D29; log 6). -/
def parInv : Bit := 0#1

/-- `popcount(v)`, the number of 1 bits of a byte (R12). -/
def popcount (v : Byte) : Nat := (List.range 8).countP (fun i => v.getLsbD i)

/-- Bit `i` of a byte as a 1-bit signal. -/
def bitAt (v : Byte) (i : Nat) : Bit := v.extractLsb' i 1

/-- `PAR(v)`: the exclusive or of the seven low bits; bit 7 is ignored (R80, R81). -/
def par (v : Byte) : Bit :=
  bitAt v 6 ^^^ bitAt v 5 ^^^ bitAt v 4 ^^^ bitAt v 3 ^^^ bitAt v 2 ^^^ bitAt v 1 ^^^ bitAt v 0 ^^^ parInv

/-- `PARMASK(v) = PAR(v) << 6`, the placed form (R82). -/
def parMask (v : Byte) : Byte := (par v).zeroExtend 8 <<< 6

/-- `ENC(l) = {0, PAR(l), l[5:0]}` (R84). -/
def enc (l : Level) : Byte := 0#1 ++ par (zext8 l) ++ l

/-- `CHK(b)`: bit 6 is the parity of bits 5 to 0 (R85). -/
def chk (b : Byte) : Bool := parityFlag b == par (b &&& 0x3F#8)

end Sys2Proof.Machine
end

