-- ==== Sys2Proof/Syntax.lean ====
section
/-! DEFINITION. The encoded objects of the SPC block: the four frame classes of spec/opcode_table.json
(30_encoding.md R62 to R65), and the assembler forms of R70. -/

namespace Sys2Proof

/-- A frame, one constructor per row of spec/opcode_table.json; the fields are those of its disassembly (R70). -/
inductive Instr where
  /-- `CTRL`, the byte 0x80 (R62). -/
  | ctrl
  /-- `CTRL.RSVD x`, a control-format byte with code `x ≠ 0` (R63). -/
  | ctrlRsvd (x : CtrlCode)
  /-- `LEVEL l`, a level-format byte whose parity bit is `PAR(l)` (R64). -/
  | level (l : Level)
  /-- `LEVEL.BADPAR p l`, a level-format byte whose parity bit `p` is not `PAR(l)` (R65). -/
  | levelBadpar (p : Bit) (l : Level)
  deriving DecidableEq, Repr

/-- The lines of the assembler of R70 that emit a byte. -/
inductive AsmLine where
  /-- `LEVEL n`. -/
  | level (n : Level)
  /-- `CTRL`. -/
  | ctrl
  /-- `LEVEL.RAW p, n`: a level-format byte with the parity bit given, right or wrong. -/
  | levelRaw (p : Bit) (n : Level)
  /-- `CTRL.RAW x`. -/
  | ctrlRaw (x : CtrlCode)
  /-- `.byte v`. -/
  | byte (v : Byte)
  deriving DecidableEq, Repr

end Sys2Proof
end

