-- ==== Sys2Proof/WellFormed.lean ====
section
/-! DEFINITION. The checks a frame and a set of parameters must pass (30_encoding.md R63, R65; 00_scope.md R10). -/

namespace Sys2Proof

/-- A frame is well-formed when its fields are those of its class: a reserved control code is not 0 (R63), and the
parity bit of a rejected level frame is wrong (R65). -/
def Instr.wf : Instr → Bool
  | .ctrl => true
  | .ctrlRsvd x => x != 0#7
  | .level _ => true
  | .levelBadpar p l => p != Machine.par (Machine.zext8 l)

/-- The frame is control-format (`b[7] = 1`, R60). -/
def Instr.isControl : Instr → Bool
  | .ctrl => true
  | .ctrlRsvd _ => true
  | .level _ => false
  | .levelBadpar _ _ => false

/-- The legal ranges of the open parameters that their types do not already give (R10). No rule depends on them. -/
def Params.legal (p : Params) : Bool := decide (0 < p.tickInterval) && decide (0 < p.pwmFreqHz)

end Sys2Proof
end

