-- ==== Sys2Proof/Decode.lean ====
section
/-! DEFINITION. Decoding one byte into its frame class, total on all 256 bytes (30_encoding.md R66, R67), the
encoder, and the assembler of R70. -/

namespace Sys2Proof

/-- Why a byte sequence is no frame. Every byte is one (R66), so only the empty sequence is refused. -/
inductive DecodeReject where
  /-- There is no byte: `RxPop()` returned `none`. -/
  | noByte
  deriving DecidableEq, Repr

/-- The class of a byte, tested in the order of R67: bit 7 first, then the code, or the parity. -/
def decode (b : Byte) : Instr :=
  if Machine.requestBit b = 1#1 then
    if Machine.ctrlCode b = 0#7 then .ctrl else .ctrlRsvd (Machine.ctrlCode b)
  else if Machine.parityFlag b = Machine.par (Machine.zext8 (Machine.levelField b)) then .level (Machine.levelField b)
  else .levelBadpar (Machine.parityFlag b) (Machine.levelField b)

/-- One frame off the front of a byte sequence; a frame is exactly one byte (R60, R69, R132). -/
def decodeFrame : List Byte → Except DecodeReject (Instr × List Byte)
  | [] => .error .noByte
  | b :: rest => .ok (decode b, rest)

/-- The byte of a frame, from the formats of R60: `{1, x}` or `{0, p, l}`. -/
def encode : Instr → Byte
  | .ctrl => 1#1 ++ 0#7
  | .ctrlRsvd x => 1#1 ++ x
  | .level l => Machine.enc l
  | .levelBadpar p l => 0#1 ++ p ++ l

/-- The byte an assembler line emits (R70). -/
def assemble : AsmLine → Byte
  | .level n => Machine.enc n
  | .ctrl => 0x80#8
  | .levelRaw p n => 0#1 ++ p ++ n
  | .ctrlRaw x => 1#1 ++ x
  | .byte v => v

/-- The bytes of an instruction numbered as spec/opcode_table.json numbers its bits: the first byte is bits 7 to 0. -/
def tableBytes : Nat → Nat → List Byte
  | 0, _ => []
  | n + 1, w => BitVec.ofNat 8 w :: tableBytes n (w / 256)

/-- The instruction the decoder reads from the bits `w` of a table row of `nbits` bits. -/
def decodeTableWord (nbits w : Nat) : Option Instr :=
  match decodeFrame (tableBytes (nbits / 8) w) with
  | .ok (i, []) => some i
  | .ok (_, _ :: _) => none
  | .error _ => none

end Sys2Proof
end

