-- ==== Sys2Proof/Machine/State.lean ====
section
/-! DEFINITION. The state of the SPC block (10_state.md R20 to R25), its outputs (R35, R36), the environment a step
reads (R30), and the state after reset (R34). -/

namespace Sys2Proof.Machine

/-- `phase`: where the block is in its life (R23). -/
inductive Phase where
  /-- Reset has happened and `STARTUP` has not finished. -/
  | boot
  /-- `STARTUP` finished without failure. -/
  | run
  /-- A fatal peripheral failure occurred. -/
  | halted
  deriving DecidableEq, Repr

/-- `seq`: the step register of the PWM sequencer, in the order visited (R24). -/
inductive Seq where
  | idle
  | sDisable
  | sWgm
  | sTop
  | sDuty
  | sPindir
  | sEnable
  deriving DecidableEq, Repr

/-- The commands the block sends to the peripheral (R35). -/
inductive PerCmd where
  /-- `CFG(pin, frequency, resolution)`, variant A; answers. -/
  | cfg (pin freqHz resolution : Nat)
  /-- `WR(pin, level)`, variant A; answers. -/
  | wr (pin : Nat) (level : Level)
  /-- `T_DISABLE`: disable the timer (variant B; none of the `T_` commands answers). -/
  | tDisable
  /-- `T_WGM(WGM_MODE)`: the waveform-generation mode bits. -/
  | tWgm (mode : Nat)
  /-- `T_TOP(TOP_VALUE)`: the period register. -/
  | tTop (top : Nat)
  /-- `T_DUTY(level)`: the duty-compare register. -/
  | tDuty (level : Level)
  /-- `T_PINDIR(PWM_PIN, output)`: the pin direction; the only direction the block sends is output. -/
  | tPindir (pin : Nat)
  /-- `T_ENABLE`: re-enable the timer. -/
  | tEnable
  deriving DecidableEq, Repr

/-- One entry of the peripheral command trace (R35): the command, its answer if it reports one, and the `irq_mask` it
was sent under (R110, R112; the last is the model's own note, log 10). -/
structure Sent where
  cmd : PerCmd
  answer : Option Answer
  masked : Bool
  deriving DecidableEq, Repr

/-- The diagnostic events (R36). -/
inductive DiagEvent where
  /-- `DIAG_RX(b)`: a byte was received. -/
  | rx (b : Byte)
  /-- `DIAG_CTRL`: a control frame was recognised. -/
  | ctrl
  /-- `DIAG_APPLIED(level)`: a changed level was applied. -/
  | applied (level : Level)
  deriving DecidableEq, Repr

/-- Why a frame is dropped (R160, R167); a drop is a normal end. -/
inductive DropReason where
  /-- `E_CTRL_MALFORMED` (R161). -/
  | ctrlMalformed
  /-- `E_PARITY` (R162). -/
  | parity
  deriving DecidableEq, Repr

/-- Why the block halts (R160, R167). -/
inductive HaltCause where
  /-- `F_PERIPH_INIT`: `CFG` answered fail (R163). -/
  | periphInit
  /-- `F_PERIPH_WRITE`: `WR` answered fail (R164). -/
  | periphWrite
  deriving DecidableEq, Repr

/-- How an `APPLY` ends (R90). -/
inductive ApplyResult where
  /-- The level is that of `current`: only the timestamp was written (R93). -/
  | noChange
  /-- The level was programmed (R94). -/
  | changed
  /-- The block halted (R95). -/
  | halt (cause : HaltCause)
  deriving DecidableEq, Repr

/-- The state: the five elements of the spec's S first, then the outputs, then the environment. -/
@[ext]
structure State where
  /-- Last applied duty level, or `UNSET` (R21). -/
  current : Duty
  /-- Time of the last `APPLY` (R22). -/
  lastAppliedAt : Timestamp
  /-- Where the block is in its life (R23). -/
  phase : Phase
  /-- The step of the PWM sequencer (R24). -/
  seq : Seq
  /-- `irq_mask`, the request to suspend platform interrupts (R25). -/
  irqMask : Bool
  /-- The peripheral command trace, oldest first (R35). -/
  per : List Sent
  /-- The diagnostic trace, oldest first (R36). -/
  diag : List DiagEvent
  /-- The RX stream: bytes received and not yet consumed, oldest first (R30 (a), R41). -/
  rx : List Byte
  /-- The batches the transport will append, one per `RxPop()` (R41; the model's own, log 3). -/
  arrivals : List (List Byte)
  /-- How many free batches have been drawn (the model's own, log 2). -/
  arrivalDraws : Nat
  /-- What the coming samples of `Now()` return (R30 (b), R53; the model's own, log 2). -/
  times : List Timestamp
  /-- How many free times have been drawn (the model's own, log 2). -/
  timeDraws : Nat
  /-- What the peripheral answers to the coming `CFG` and `WR` commands (R30 (c); the model's own, log 2). -/
  answers : List Answer
  /-- How many free answers have been drawn (the model's own, log 2). -/
  answerDraws : Nat
  /-- The reset line, one entry per step, true for a reset event (R185; the model's own, log 8). -/
  resetIn : List Bool
  /-- How many values of `lastAppliedAt` at reset have been drawn (the model's own, log 5). -/
  resetDraws : Nat
  /-- The open parameters, constants over a run (R10, R28, R30 (d); log 4). -/
  params : Params
  deriving DecidableEq, Repr

/-- Why a step stops. -/
inductive Fault where
  /-- Raised by every operation, and by step, in phase `HALTED`: after a halt no operation is enabled (R158, R170, U7).
  Safe: the model stops where the device does nothing more until reset. -/
  | halted
  /-- Raised by an operation asked for in a phase its rule does not enable: a frame or a watchdog check in `BOOT`,
  `STARTUP` in `RUN` (R125, R140, R187; log 7). step never asks for one. Safe: the spec gives no such run. -/
  | notEnabled
  /-- `F_RANGE`: `APPLY` with a level above `MAX_LEVEL` (R91, R166, D6). Unreachable from every requester (R100).
  Safe: the spec defines no result. -/
  | range
  deriving DecidableEq, Repr

/-- Why an instruction has no meaning. -/
inductive Refusal where
  /-- Raised by an arm of exec that has no meaning yet; no arm is refused in this model. Safe. -/
  | notModelled (mnemonic : String)
  deriving DecidableEq, Repr

/-- How an operation of the block ends. -/
abbrev Outcome := Host.Outcome State Fault Refusal

/-- The state right after reset, before `STARTUP` (R34, R186). `lastAppliedAt` and `params` are free values (log 4, 5);
nothing is listed of the environment (log 2, 8). -/
def State.reset : State where
  current := Config.unset
  lastAppliedAt := Config.resetTimestamp 0
  phase := .boot
  seq := .idle
  irqMask := false
  per := []
  diag := []
  rx := []
  arrivals := []
  arrivalDraws := 0
  times := []
  timeDraws := 0
  answers := []
  answerDraws := 0
  resetIn := []
  resetDraws := 1
  params := Config.params

end Sys2Proof.Machine
end

