-- ==== Sys2Proof/Machine/Flags.lean ====
section
/-! DEFINITION. The block has no stored flags (10_state.md R27); these are the combinational conditions its
operations test: APPLY's range check and update detector (R91, R93, R96), and the watchdog's comparison (R140 to
R142). -/

namespace Sys2Proof.Machine

/-- `valid`: the level is in `[0, MAX_LEVEL]` (R91, R96). -/
def inRange (level : Duty) : Bool := decide (level ≤ Config.maxLevel)

/-- `changed`: the 16-bit comparison of the update detector (R93, R96). -/
def changes (level : Duty) (s : State) : Bool := level != s.current

/-- `elapsed = (now − lastAppliedAt) mod 2^32` (R140, R142; log 12). -/
def elapsed (now last : Timestamp) : Timestamp := now - last

/-- The deadline is exceeded: unsigned, strict (R141). -/
def idleExceeded (maxIdle now last : Timestamp) : Bool := decide (maxIdle < elapsed now last)

end Sys2Proof.Machine
end

