-- ==== Sys2Proof/Machine/Ops.lean ====
section
/-! DEFINITION. The primitives of the block (00_scope.md R13): RxPop, Now, Per, Emit, drop and raise Halt, the
reset event (70_reset_and_hazards.md R185), and the phase each operation is enabled in. -/

namespace Sys2Proof.Machine

/-- `S.current <- level` (R13, R94). -/
def setCurrent (level : Duty) (s : State) : State := { s with current := level }

/-- `S.lastAppliedAt <- now` (R13, R92). -/
def stamp (now : Timestamp) (s : State) : State := { s with lastAppliedAt := now }

/-- `S.phase <- p` (R13, R23). -/
def setPhase (p : Phase) (s : State) : State := { s with phase := p }

/-- `S.seq <- q` and `S.irq_mask <- m` (R13, R110, R111). -/
def setSeq (q : Seq) (m : Bool) (s : State) : State := { s with seq := q, irqMask := m }

/-- The RX stream with its oldest byte consumed (R41). -/
def setRx (rest : List Byte) (s : State) : State := { s with rx := rest }

/-- `Emit(e)`: append an event to the diagnostic trace (R13, R36). -/
def emit (e : DiagEvent) (s : State) : State := { s with diag := s.diag ++ [e] }

/-- `drop(reason)`: the frame has no further effect; nothing is recorded (R13, R161, R162). -/
def dropFrame (_reason : DropReason) (s : State) : State := s

/-- The value the next sample of `Now()` returns (R53): the script's, else a free value (log 2). -/
def nowValue (s : State) : Timestamp :=
  match s.times with
  | t :: _ => t
  | [] => Config.freeTime s.timeDraws

/-- The state after one sample of `Now()`: the block is untouched, the environment moves on. -/
def afterNow (s : State) : State :=
  { s with times := s.times.tail, timeDraws := if s.times.isEmpty then s.timeDraws + 1 else s.timeDraws }

/-- The bytes the transport appends before the next `RxPop()` (R41): the script's, else a free batch (log 2, 3). -/
def arriving (s : State) : List Byte :=
  match s.arrivals with
  | bytes :: _ => bytes
  | [] => Config.freeArrival s.arrivalDraws

/-- The transport appends its next batch to the RX stream, newest last (R41). -/
def delivered (s : State) : State :=
  { s with
    rx := s.rx ++ arriving s
    arrivals := s.arrivals.tail
    arrivalDraws := if s.arrivals.isEmpty then s.arrivalDraws + 1 else s.arrivalDraws }

/-- `RxPop()`: the oldest byte, removed, or `none` and nothing changed (R41). -/
def rxPop (s : State) : Option Byte × State :=
  match s.rx with
  | [] => (none, s)
  | b :: rest => (some b, setRx rest s)

/-- What the peripheral answers to the next `CFG` or `WR` (R13, R30 (c)): the script's, else a free value (log 2). -/
def answerValue (s : State) : Answer :=
  match s.answers with
  | a :: _ => a
  | [] => Config.freeAnswer s.answerDraws

/-- `Per(c)` for a command that answers nothing: append it to the command trace (R35, R48). -/
def perTell (c : PerCmd) (s : State) : State := { s with per := s.per ++ [⟨c, none, s.irqMask⟩] }

/-- `Per(c)` for a command that reports: append it with the answer `answerValue s` (R35, R48). -/
def perAsk (c : PerCmd) (s : State) : State :=
  { s with
    per := s.per ++ [⟨c, some (answerValue s), s.irqMask⟩]
    answers := s.answers.tail
    answerDraws := if s.answers.isEmpty then s.answerDraws + 1 else s.answerDraws }

/-- `raise Halt(cause)`: the only trap (R170). The phase becomes `HALTED`; nothing is saved, no cause is recorded
(R163, R167), and everything else keeps its value. The caller ends at once. -/
def raiseHalt (_cause : HaltCause) (s : State) : State := setPhase .halted s

/-- The reset line shows a reset event at this step (R185; log 8). -/
def resetNow (s : State) : Bool := s.resetIn.headD false

/-- The state after the step has read its entry of the reset line. -/
def lineRead (s : State) : State := { s with resetIn := s.resetIn.tail }

/-- The reset event, possible in any phase and the only way out of `HALTED` (R171, R185, R186). The five elements of S
take their reset values, both traces are emptied (R34; log 9), the RX stream is not flushed (D20, R190). -/
def resetEvent (s : State) : State :=
  { s with
    current := Config.unset
    lastAppliedAt := Config.resetTimestamp s.resetDraws
    phase := .boot
    seq := .idle
    irqMask := false
    per := []
    diag := []
    resetDraws := s.resetDraws + 1 }

/-- The fault of an operation asked for in a phase that does not enable it (R158; log 7). -/
def disabledFault : Phase → Fault
  | .halted => .halted
  | .boot => .notEnabled
  | .run => .notEnabled

/-- An operation that is enabled in one phase only (R125, R140, R187). -/
def enabledIn (p : Phase) (s : State) (o : Outcome) : Outcome :=
  if s.phase = p then o else .fault (disabledFault s.phase)

end Sys2Proof.Machine
end

