-- ==== Sys2Proof/Machine/Sequencer.lean ====
section
/-! DEFINITION. The PWM sequencer: CONFIGURE and PROGRAM in both variants (42_pwm_sequencer.md R105 to R113), and
the state machine of R111 that variant B's straight line runs through. -/

namespace Sys2Proof.Machine

/-- `CONFIGURE()`: variant A sends `CFG` once and halts on fail (R108); variant B does and sends nothing (R108, R113).
The answer is the cause of the halt, if there was one. -/
def configure (s : State) : Option HaltCause × State :=
  match s.params.variant with
  | .A =>
    match answerValue s with
    | .ok => (none, perAsk (.cfg s.params.pwmPin s.params.pwmFreqHz Config.resolution) s)
    | .fail =>
      (some .periphInit,
        raiseHalt .periphInit (perAsk (.cfg s.params.pwmPin s.params.pwmFreqHz Config.resolution) s))
  | .B => (none, s)

/-- The command sent on entry to a state of the sequencer (R111). -/
def seqCommand (p : Params) (level : Level) : Seq → Option PerCmd
  | .idle => none
  | .sDisable => some .tDisable
  | .sWgm => some (.tWgm p.wgmMode)
  | .sTop => some (.tTop p.topValue)
  | .sDuty => some (.tDuty level)
  | .sPindir => some (.tPindir p.pwmPin)
  | .sEnable => some .tEnable

/-- The successor of a state of the sequencer, under `program_req` (R111). -/
def nextSeq : Seq → Seq
  | .idle => .sDisable
  | .sDisable => .sWgm
  | .sWgm => .sTop
  | .sTop => .sDuty
  | .sDuty => .sPindir
  | .sPindir => .sEnable
  | .sEnable => .idle

/-- Enter a state of the sequencer under the interrupt mask and send its command (R110, R111). -/
def enterSeq (level : Level) (s : State) (q : Seq) : State :=
  match seqCommand s.params level q with
  | some c => perTell c (setSeq q true s)
  | none => setSeq q true s

/-- Back to `IDLE`, the mask lowered (R110, R112). -/
def leaveSeq (s : State) : State := setSeq .idle false s

/-- The six states of one sequence, in order (R110, R111). -/
def seqOrder : List Seq := [.sDisable, .sWgm, .sTop, .sDuty, .sPindir, .sEnable]

/-- One transition of the machine of R111 while a request is held: the finer step that D4 names. -/
def seqAdvance (level : Level) (s : State) : State :=
  match nextSeq s.seq with
  | .idle => leaveSeq s
  | q => enterSeq level s q

/-- `PROGRAM(level)`, variant A: one `WR`, its answer returned (R109). -/
def programA (level : Level) (s : State) : Answer × State :=
  (answerValue s, perAsk (.wr s.params.pwmPin level) s)

/-- `PROGRAM(level)`, variant B: the mask is raised, all six commands are sent in order, the mask is lowered; it never
fails (R110, R112, R113). -/
def programB (level : Level) (s : State) : Answer × State :=
  (.ok, leaveSeq (seqOrder.foldl (enterSeq level) (setSeq s.seq true s)))

/-- `PROGRAM(level)` of the variant chosen at build time (R105, R107). -/
def program (level : Level) (s : State) : Answer × State :=
  match s.params.variant with
  | .A => programA level s
  | .B => programB level s

end Sys2Proof.Machine
end

