-- ==== Sys2Proof/Machine/Duty.lean ====
section
/-! DEFINITION. The Duty Cycle Register's one operation, APPLY (41_duty_cycle_register.md R90 to R95). -/

namespace Sys2Proof.Machine

/-- Lines 2 to 8 of `APPLY(level, now)`, for a level that passed the range check (R90): the timestamp is always
captured (R92); an unchanged level touches nothing else (R93); a changed one is written, programmed and reported, in
this order (R94); a failed write halts with `current` already written (R95). -/
def applyInRange (level : Duty) (now : Timestamp) (s : State) : ApplyResult × State :=
  if changes level s then
    match program (dutyBits level) (setCurrent level (stamp now s)) with
    | (.ok, t) => (.changed, emit (.applied (dutyBits level)) t)
    | (.fail, t) => (.halt .periphWrite, raiseHalt .periphWrite t)
  else (.noChange, stamp now s)

/-- `APPLY(level, now)` (R90): enabled in `BOOT` and `RUN`; a level above `MAX_LEVEL` is a fault of the model before any
write (R91, D6). -/
def apply (level : Duty) (now : Timestamp) (s : State) : Except Fault (ApplyResult × State) :=
  if s.phase = .halted then .error .halted
  else if inRange level then .ok (applyInRange level now s)
  else .error .range

/-- An operation whose last act is an `APPLY`: a halt is a next state in phase `HALTED` (R170), `F_RANGE` a fault. -/
def applyLast (level : Duty) (now : Timestamp) (s : State) : Outcome :=
  match apply level now s with
  | .ok r => .next r.2
  | .error f => .fault f

end Sys2Proof.Machine
end

