-- ==== Sys2Proof/Machine/Frames.lean ====
section
/-! DEFINITION. The meanings of the four frame classes (43_command_decoder.md R125 to R130). Each first emits the
receipt line of its byte (R125, R137). -/

namespace Sys2Proof.Machine

/-- `Emit(DIAG_RX(b))` for the byte of a frame: the first act of `DECODE(b)` (R125, R137). -/
def received (i : Instr) (s : State) : State := emit (.rx (encode i)) s

/-- `CTRL`: recognised, a no-op marker; the timestamp is not refreshed (R127). -/
def execCtrl (s : State) : Outcome :=
  enabledIn .run s (.next (emit .ctrl (received .ctrl s)))

/-- `CTRL.RSVD`: consumed and dropped (R128, R161). -/
def execCtrlRsvd (x : CtrlCode) (s : State) : Outcome :=
  enabledIn .run s (.next (dropFrame .ctrlMalformed (received (.ctrlRsvd x) s)))

/-- `LEVEL`: one sample of the time, then one `APPLY` of the level (R129). -/
def execLevel (l : Level) (s : State) : Outcome :=
  enabledIn .run s (applyLast (zext16 l) (nowValue s) (afterNow (received (.level l) s)))

/-- `LEVEL.BADPAR`: consumed and dropped; the time is not sampled (R130, R162). -/
def execLevelBadpar (p : Bit) (l : Level) (s : State) : Outcome :=
  enabledIn .run s (.next (dropFrame .parity (received (.levelBadpar p l) s)))

end Sys2Proof.Machine
end

