-- ==== Sys2Proof/Machine/Dispatch.lean ====
section
/-! DEFINITION. One arm per frame class: each is a direct call of its meaning. -/

namespace Sys2Proof.Machine

def exec (i : Instr) (s : State) : Host.Outcome State Fault Refusal :=
  match i with
  | .ctrl => Sys2Proof.Machine.execCtrl s
  | .ctrlRsvd x => Sys2Proof.Machine.execCtrlRsvd x s
  | .level l => Sys2Proof.Machine.execLevel l s
  | .levelBadpar p l => Sys2Proof.Machine.execLevelBadpar p l s

end Sys2Proof.Machine
end

