-- ==== Sys2Proof/Machine/Startup.lean ====
section
/-! DEFINITION. STARTUP, invoked once by reset (70_reset_and_hazards.md R187). -/

namespace Sys2Proof.Machine

/-- The end of `STARTUP`: `RUN` unless the `APPLY` halted (R23, R187). -/
def enterRun (r : ApplyResult × State) : State :=
  match r.1 with
  | .halt _ => r.2
  | .noChange => setPhase .run r.2
  | .changed => setPhase .run r.2

/-- `STARTUP()`: configure, sample the time, apply `MAX_LEVEL`, then `RUN` (R187). -/
def startup (s : State) : Outcome :=
  enabledIn .boot s
    (let c := configure s
     match c.1 with
     | some _ => .next c.2
     | none =>
       match apply Config.maxLevel (nowValue c.2) (afterNow c.2) with
       | .ok r => .next (enterRun r)
       | .error f => .fault f)

/-- The script event `START` of R70: a reset followed by its one `STARTUP` (R185). -/
def start (s : State) : Outcome := startup (resetEvent s)

end Sys2Proof.Machine
end

