-- ==== Sys2Proof/Machine/Watchdog.lean ====
section
/-! DEFINITION. The Idle Watchdog's operation, WDT_CHECK (44_idle_watchdog.md R140 to R144). -/

namespace Sys2Proof.Machine

/-- `WDT_CHECK()`: one sample of the time, used for both the test and the `APPLY` (R140, R144); strictly past the
deadline the fixed fallback level is applied (R141, R143). -/
def wdtCheck (s : State) : Outcome :=
  enabledIn .run s
    (if idleExceeded s.params.maxIdleTime (nowValue s) s.lastAppliedAt then
      applyLast Config.fallbackLevel (nowValue s) (afterNow s)
    else .next (afterNow s))

end Sys2Proof.Machine
end

