-- ==== Sys2Proof/Machine/Loop.lean ====
section
/-! DEFINITION. The scheduler loop (45_scheduler_loop.md R150 to R158) one operation at a time, and LOOP_ITER as
one operation. -/

namespace Sys2Proof.Machine

/-- `DECODE(b)`: classify the byte and give its class its meaning (R125, R131). -/
def decodeByte (b : Byte) (s : State) : Outcome := exec (decode b) s

/-- `yield(TICK_INTERVAL)`: no state changes; the time passes and bytes may arrive, which the scripts show (R153). -/
def yieldTick (_interval : Nat) (s : State) : State := s

/-- The tail of an iteration: one `WDT_CHECK`, then the yield unless it halted (R150, R152). -/
def checkAndYield (s : State) : Outcome :=
  match wdtCheck s with
  | .next t => .next (if t.phase = .halted then t else yieldTick t.params.tickInterval t)
  | .fault f => .fault f
  | .refused r => .refused r

/-- One turn of the loop in `RUN`: bytes may arrive, then one `RxPop()`; a byte is decoded, an empty stream ends the
drain and the watchdog is checked (R150, R151; log 3). -/
def loopTurn (s : State) : Outcome :=
  match rxPop (delivered s) with
  | (some b, t) => decodeByte b t
  | (none, t) => checkAndYield t

/-- One step of the machine: a reset event if the line shows one (R185); else what the phase enables: `STARTUP`, a turn
of the loop, or nothing at all (R23, R158, U7). -/
def turn (s : State) : Outcome :=
  if resetNow s then .next (resetEvent (lineRead s))
  else
    match s.phase with
    | .boot => startup (lineRead s)
    | .run => loopTurn (lineRead s)
    | .halted => .fault .halted

/-- `LOOP_ITER()` (R150), given how many `RxPop()` calls may be made: `none` says that the drain has not ended within
them (R157); the drain itself has no bound. -/
def loopIter : Nat → State → Option Outcome
  | 0, _ => none
  | n + 1, s =>
    match rxPop (delivered s) with
    | (none, t) => some (checkAndYield t)
    | (some b, t) =>
      match decodeByte b t with
      | .next u => if u.phase = .halted then some (.next u) else loopIter n u
      | .fault f => some (.fault f)
      | .refused r => some (.refused r)

/-- The state whose next step receives the bytes of a table word: the bytes are the oldest of the RX stream, the phase
is `RUN`, and the reset line shows no reset for that one step (log 14). -/
def placeFrame (s : State) (nbits w : Nat) : State :=
  { s with phase := .run, resetIn := false :: s.resetIn, rx := tableBytes (nbits / 8) w ++ s.rx }

end Sys2Proof.Machine
end

