-- ==== Sys2Proof/Machine/Step.lean ====
section
/-! DEFINITION. The step of the machine, and the state that runs a given frame next. -/

namespace Sys2Proof.Machine

/-- One step: one operation of the block (00_scope.md R6, R14). -/
def step (s : State) : Host.Outcome State Fault Refusal := turn s

/-- `s` with the frame of the table word placed where the next step receives it. -/
def State.withFetchWord (s : State) (nbits w : Nat) : State := placeFrame s nbits w

end Sys2Proof.Machine
end

