-- ==== Sys2Proof/Machine/Peripheral.lean ====
section
/-! DEFINITION. The abstract model of the peripheral (10_state.md R35): what the command trace means. The block
cannot read it back (20_memory.md R40); claims about the fan are stated over it (D23). -/

namespace Sys2Proof.Machine

/-- What the command trace so far has made of the peripheral. -/
structure PerView where
  /-- Variant A: a `CFG` has answered ok. -/
  configured : Bool
  /-- Variant B: `T_WGM` has been sent since the last `T_DISABLE`. -/
  wgmSet : Bool
  /-- Variant B: `T_TOP` has been sent since the last `T_DISABLE`. -/
  topSet : Bool
  /-- Variant B: how many commands of the six-command sequence have been sent in order. -/
  progress : Nat
  /-- Variant B: the duty of the sequence in progress. -/
  pending : Option Level
  /-- `OutLevel`, `none` while it is undefined. -/
  out : Option Level
  deriving DecidableEq, Repr

/-- The peripheral before any command: `OutLevel` is undefined (R34, R35, U9). -/
def unprogrammed : PerView := ⟨false, false, false, 0, none, none⟩

/-- The effect of one command (R35). A duty sent before the mode of its sequence makes `OutLevel` undefined (R106, U2;
log 11); any other broken sequence leaves the level of the last completed one. -/
def observe (v : PerView) (c : Sent) : PerView :=
  match c.cmd with
  | .cfg _ _ _ => if c.answer = some .ok then { v with configured := true } else v
  | .wr _ l =>
    if v.configured then (if c.answer = some .ok then { v with out := some l } else v)
    else { v with out := none }
  | .tDisable => { v with progress := 1, wgmSet := false, topSet := false }
  | .tWgm _ => { v with progress := if v.progress = 1 then 2 else 0, wgmSet := true }
  | .tTop _ => { v with progress := if v.progress = 2 then 3 else 0, topSet := true }
  | .tDuty l =>
    if v.progress = 3 then { v with progress := 4, pending := some l }
    else if v.wgmSet && v.topSet then { v with progress := 0 }
    else { v with progress := 0, out := none }
  | .tPindir _ => { v with progress := if v.progress = 4 then 5 else 0 }
  | .tEnable =>
    if v.progress = 5 then { v with progress := 0, out := v.pending } else { v with progress := 0 }

/-- The peripheral after a command trace. -/
def perView (trace : List Sent) : PerView := trace.foldl observe unprogrammed

/-- `OutLevel`, the level the pin is driven at, `none` while undefined (R35, R114). -/
def outLevel (trace : List Sent) : Option Level := (perView trace).out

/-- The duty ratio of a level: `level / MAX_LEVEL`, the fraction of each period the pin is active (R35, R114). -/
def ratioOf (level : Level) : Rat := (level.toNat : Rat) / (Config.maxLevel.toNat : Rat)

/-- The duty ratio of the pin after a command trace, `none` while `OutLevel` is undefined (R35, R114). -/
def dutyRatio (trace : List Sent) : Option Rat := (outLevel trace).map ratioOf

/-- The duty a command gives the peripheral, if it gives one: one per `PROGRAM` (R109, R110). -/
def dutyOf (c : Sent) : Option Level :=
  match c.cmd with
  | .wr _ l => some l
  | .tDuty l => some l
  | .cfg _ _ _ => none
  | .tDisable => none
  | .tWgm _ => none
  | .tTop _ => none
  | .tPindir _ => none
  | .tEnable => none

/-- How many `PROGRAM`s a command trace shows: each sends exactly one duty (R97, R109, R110). -/
def programCount (trace : List Sent) : Nat := trace.countP (fun c => (dutyOf c).isSome)

/-- The first duty ever given to the peripheral (R119). -/
def firstDuty (trace : List Sent) : Option Level := trace.findSome? dutyOf

end Sys2Proof.Machine
end

