-- ==== Sys2Proof/Safety.lean ====
section
/-! DEFINITION. What claims about the block are stated in: the invariants of 10_state.md section 10, the ordering
invariant of 42_pwm_sequencer.md R106, and when two states or two outcomes agree. -/

namespace Sys2Proof.Safety

open Sys2Proof Sys2Proof.Machine

/-- The range of `current` (R21, R33): `UNSET` or a level, a level in `RUN`, and `UNSET` in `BOOT` (R34). -/
def DutyInRange (s : State) : Prop :=
  (s.current = 0xFFFF#16 ∨ s.current ≤ 63#16) ∧ (s.phase = .run → s.current ≤ 63#16) ∧
    (s.phase = .boot → s.current = 0xFFFF#16)

/-- Between operations the sequencer is idle and no interrupt is masked (R24, R25). -/
def SequencerIdle (s : State) : Prop := s.seq = .idle ∧ s.irqMask = false

/-- A `CFG` that answered ok. -/
def ConfiguredOk (c : Sent) : Prop := (∃ pin freq res, c.cmd = .cfg pin freq res) ∧ c.answer = some .ok

/-- The ordering invariant (R106) of a command trace: a `CFG` has answered ok before any `WR`, and every `T_DUTY` comes
right after the `T_DISABLE`, `T_WGM`, `T_TOP` of its own sequence. -/
def ModeBeforeDuty (trace : List Sent) : Prop :=
  ∀ before c after, trace = before ++ c :: after →
    (∀ pin l, c.cmd = .wr pin l → ∃ d ∈ before, ConfiguredOk d) ∧
    (∀ l, c.cmd = .tDuty l →
      ∃ earlier mode top, before.map Sent.cmd = earlier ++ [.tDisable, .tWgm mode, .tTop top])

/-- The ordering invariant as every step keeps it: in `RUN`, variant A, the peripheral is configured. -/
def ModeFirst (s : State) : Prop :=
  ModeBeforeDuty s.per ∧ (s.phase = .run → s.params.variant = .A → ∃ d ∈ s.per, ConfiguredOk d)

/-- In `RUN` the output level is `current` (R35, R94), and in variant A the peripheral is configured. -/
def OutputFollowsDuty (s : State) : Prop :=
  s.phase = .run →
    outLevel s.per = some (dutyBits s.current) ∧ (s.params.variant = .A → (perView s.per).configured = true)

/-- The first duty the peripheral is given since the last reset is 63 (R119; the trace starts empty at each reset, the
model's choice, log 9): none in `BOOT`, 63 or none after a halt, 63 in `RUN`. -/
def FirstDutyFull (s : State) : Prop :=
  (s.phase = .boot → firstDuty s.per = none) ∧ (s.phase = .run → firstDuty s.per = some 63#6) ∧
    (firstDuty s.per = none ∨ firstDuty s.per = some 63#6)

/-- Two outcomes agree: the same fault or refusal, or next states in the relation. -/
def OutcomesAgree (R : State → State → Prop) : Outcome → Outcome → Prop
  | .next t, .next u => R t u
  | .fault f, .fault g => f = g
  | .refused q, .refused r => q = r
  | .next _, .fault _ => False
  | .next _, .refused _ => False
  | .fault _, .next _ => False
  | .fault _, .refused _ => False
  | .refused _, .next _ => False
  | .refused _, .fault _ => False

/-- The states of the two variants of one device (R107): equal but for the variant, what only variant B writes (`seq`,
`irq_mask`), the command trace, and the answers only variant A asks for. -/
def SameButVariant (a b : State) : Prop :=
  b = { a with
    params := { a.params with variant := b.params.variant }
    seq := b.seq
    irqMask := b.irqMask
    per := b.per
    answers := b.answers
    answerDraws := b.answerDraws }

end Sys2Proof.Safety
end

