-- ==== Sys2Proof/Certificates/Slice0/Obligations.lean ====
section
/-! DEFINITION. The statements for the provers, from the numbered rules of spec/. -/

open Sys2Proof Sys2Proof.Machine Sys2Proof.Safety

/-! ### Encoding and parity -/

/-- R62 and R64, and the bits and sizes of R63 and R65: each class is exactly the bytes its rule gives, has the size its
rule gives, one accepted byte per level, and a rejected level byte is an accepted one with bit 6 flipped. -/
def Obligations.FrameClassesByBits : Prop :=
  (∀ b : Byte,
    (decode b = .ctrl ↔ b = 0x80#8) ∧
    ((∃ x, decode b = .ctrlRsvd x) ↔ b.getLsbD 7 = true ∧ b.extractLsb' 0 7 ≠ 0#7) ∧
    ((∃ l, decode b = .level l) ↔ b.getLsbD 7 = false ∧ b.extractLsb' 6 1 = par (b &&& 0x3F#8)) ∧
    ((∃ p l, decode b = .levelBadpar p l) ↔ b.getLsbD 7 = false ∧ b.extractLsb' 6 1 ≠ par (b &&& 0x3F#8)) ∧
    ((∃ p l, decode b = .levelBadpar p l) ↔ ∃ l, decode (b ^^^ 0x40#8) = .level l)) ∧
  (∀ l : Level, ∃! b : Byte, decode b = .level l) ∧
  (List.range 256).countP (fun n => match decode (BitVec.ofNat 8 n) with | .ctrlRsvd _ => true | _ => false) = 127 ∧
  (List.range 256).countP (fun n => match decode (BitVec.ofNat 8 n) with | .level _ => true | _ => false) = 64 ∧
  (List.range 256).countP (fun n => match decode (BitVec.ofNat 8 n) with | .levelBadpar _ _ => true | _ => false) = 64

/-- Decode and encode agree, every class, every operand the encoding admits (30_encoding.md R60 to R65). -/
def Obligations.DecodeOfEncode : Prop := ∀ i : Instr, i.wf = true → decode (encode i) = i

/-- Every byte is the byte of exactly the well-formed frame it decodes to (30_encoding.md section 3, the spec's own
inference from R62 to R65). -/
def Obligations.EncodeOfDecode : Prop :=
  ∀ b : Byte, (decode b).wf = true ∧ encode (decode b) = b ∧
    ∀ i : Instr, i.wf = true → encode i = b → i = decode b

/-- Words written out from the encodings of R60 and from the disassembly of R70. -/
def Obligations.SpecWordsDecode : Prop :=
  decode 0b10000000#8 = .ctrl ∧
  decode 0b10010011#8 = .ctrlRsvd 0x13#7 ∧
  decode 0b11000101#8 = .ctrlRsvd 0x45#7 ∧
  decode 0b00000101#8 = .level 5#6 ∧
  decode 0b01000101#8 = .levelBadpar 1#1 5#6 ∧
  decode 0b01101111#8 = .level 47#6 ∧
  decode 0b00101111#8 = .levelBadpar 0#1 47#6 ∧
  decodeTableWord 8 0x3F = some (.level 63#6)

/-- R80: PAR is the exclusive or of the seven low bits, the parity of their popcount, and makes the total even. -/
def Obligations.ParityIsPopcountParity : Prop :=
  ∀ v : Byte,
    par v = BitVec.ofBool (v.getLsbD 6 ^^ v.getLsbD 5 ^^ v.getLsbD 4 ^^ v.getLsbD 3 ^^ v.getLsbD 2 ^^ v.getLsbD 1 ^^
      v.getLsbD 0) ∧
    (par v).toNat = popcount (v &&& 0x7F#8) % 2 ∧
    (popcount (v &&& 0x7F#8) + (par v).toNat) % 2 = 0

/-- R81: bit 7 of the operand is ignored. -/
def Obligations.ParityIgnoresBitSeven : Prop :=
  ∀ v : Byte, par v = par (v &&& 0x7F#8) ∧ par v = par (v ||| 0x80#8)

/-- R86: the round trip of the codec, its converse, and the quantified parity property. -/
def Obligations.LevelEncodingRoundTrip : Prop :=
  (∀ l : Level, chk (enc l) = true ∧ (enc l).extractLsb' 0 6 = l) ∧
  (∀ b : Byte, b.getLsbD 7 = false → (chk b = true ↔ b = enc (b.extractLsb' 0 6))) ∧
  (∀ v : Byte, v.getLsbD 7 = false → ((par v).toNat ^^^ popcount v % 2) = 0)

/-- One flip among bits 6 to 0 of an accepted level byte is rejected; two distinct flips are accepted with another
level; a flip of bit 7 is a control-format byte (40_parity_codec.md section 4, the spec's own inference). -/
def Obligations.FlipsOfAcceptedBytes : Prop :=
  ∀ b : Byte, b.getLsbD 7 = false → chk b = true →
    (∀ i : Fin 7, chk (b ^^^ BitVec.twoPow 8 i) = false) ∧
    (∀ i j : Fin 7, i ≠ j →
      chk (b ^^^ BitVec.twoPow 8 i ^^^ BitVec.twoPow 8 j) = true ∧
      (b ^^^ BitVec.twoPow 8 i ^^^ BitVec.twoPow 8 j).extractLsb' 0 6 ≠ b.extractLsb' 0 6) ∧
    (decode (b ^^^ 0x80#8)).isControl = true ∧ (decode (b ^^^ 0x80#8) = .ctrl ↔ b = 0#8)

/-- The assembler of 30_encoding.md section 7 (the spec's own choice, D17): its pseudo-instructions, and what each line
disassembles to. -/
def Obligations.AssemblerLines : Prop :=
  (∀ n : Level, assemble (.level n) = assemble (.levelRaw (par (n.zeroExtend 8)) n) ∧
    decode (assemble (.level n)) = .level n) ∧
  assemble .ctrl = assemble (.ctrlRaw 0#7) ∧ decode (assemble .ctrl) = .ctrl ∧
  (∀ (p : Bit) (n : Level), p ≠ par (n.zeroExtend 8) → decode (assemble (.levelRaw p n)) = .levelBadpar p n) ∧
  (∀ x : CtrlCode, x ≠ 0#7 → decode (assemble (.ctrlRaw x)) = .ctrlRsvd x) ∧
  (∀ v : Byte, assemble (.byte v) = v)

/-! ### The four frame classes -/

/-- R127: CTRL only reports; the registers, the phase, the timestamp and the peripheral are untouched. -/
def Obligations.CtrlOnlyReports : Prop :=
  ∀ s : State, s.phase = .run →
    exec .ctrl s = .next { s with diag := s.diag ++ [.rx 0x80#8, .ctrl] }

/-- R128: CTRL.RSVD is dropped with no effect beyond the receipt line. -/
def Obligations.ReservedControlDropped : Prop :=
  ∀ (x : CtrlCode) (s : State), s.phase = .run →
    exec (.ctrlRsvd x) s = .next { s with diag := s.diag ++ [.rx (1#1 ++ x)] }

/-- R130: LEVEL.BADPAR is dropped; the time is not sampled, APPLY is not called, no register changes. -/
def Obligations.BadParityDropped : Prop :=
  ∀ (p : Bit) (l : Level) (s : State), s.phase = .run →
    exec (.levelBadpar p l) s = .next { s with diag := s.diag ++ [.rx (0#1 ++ p ++ l)] }

/-- LEVEL is one sample of the time and one APPLY of the level (43_command_decoder.md section 2), whose range check always
passes (the spec's own inference); the applied level is the one received. -/
def Obligations.LevelForwardsToApply : Prop :=
  ∀ (l : Level) (s : State), s.phase = .run →
    ∃ r, apply (l.zeroExtend 16) (nowValue s) (afterNow { s with diag := s.diag ++ [.rx (enc l)] }) = .ok r ∧
      exec (.level l) s = .next r.2 ∧ r.2.current = l.zeroExtend 16 ∧ r.2.lastAppliedAt = nowValue s

/-- A LEVEL frame of the current level refreshes the timestamp and does nothing else (R129 with R93). -/
def Obligations.LevelOfCurrentOnlyStamps : Prop :=
  ∀ (l : Level) (s : State), s.phase = .run → s.current = l.zeroExtend 16 →
    exec (.level l) s =
      .next (afterNow { s with lastAppliedAt := nowValue s, diag := s.diag ++ [.rx (enc l)] })

/-- A LEVEL frame of another level, variant A, the write answered ok (R129 with R94 and R109). -/
def Obligations.LevelAppliedVariantA : Prop :=
  ∀ (l : Level) (s : State), s.phase = .run → s.current ≠ l.zeroExtend 16 → s.params.variant = .A →
    answerValue s = .ok →
    exec (.level l) s = .next (afterNow { s with
      current := l.zeroExtend 16
      lastAppliedAt := nowValue s
      per := s.per ++ [⟨.wr s.params.pwmPin l, some .ok, s.irqMask⟩]
      answers := s.answers.tail
      answerDraws := if s.answers.isEmpty then s.answerDraws + 1 else s.answerDraws
      diag := s.diag ++ [.rx (enc l), .applied l] })

/-- A LEVEL frame whose write fails halts, with the registers already written and no report
(41_duty_cycle_register.md section 2; the spec's own choice, D15). -/
def Obligations.LevelWriteFailureHalts : Prop :=
  ∀ (l : Level) (s : State), s.phase = .run → s.current ≠ l.zeroExtend 16 → s.params.variant = .A →
    answerValue s = .fail →
    exec (.level l) s = .next (afterNow { s with
      current := l.zeroExtend 16
      lastAppliedAt := nowValue s
      phase := .halted
      per := s.per ++ [⟨.wr s.params.pwmPin l, some .fail, s.irqMask⟩]
      answers := s.answers.tail
      answerDraws := if s.answers.isEmpty then s.answerDraws + 1 else s.answerDraws
      diag := s.diag ++ [.rx (enc l)] })

/-- A LEVEL frame of another level, variant B: six writes under the mask (R129 with R94 and R110). -/
def Obligations.LevelAppliedVariantB : Prop :=
  ∀ (l : Level) (s : State), s.phase = .run → s.current ≠ l.zeroExtend 16 → s.params.variant = .B →
    exec (.level l) s = .next (afterNow { s with
      current := l.zeroExtend 16
      lastAppliedAt := nowValue s
      seq := .idle
      irqMask := false
      per := s.per ++
        [⟨.tDisable, none, true⟩, ⟨.tWgm s.params.wgmMode, none, true⟩, ⟨.tTop s.params.topValue, none, true⟩,
          ⟨.tDuty l, none, true⟩, ⟨.tPindir s.params.pwmPin, none, true⟩, ⟨.tEnable, none, true⟩]
      diag := s.diag ++ [.rx (enc l), .applied l] })

/-- No frame is decoded outside RUN: in HALTED nothing is enabled, in BOOT the model answers a fault (the spec's D3 and
D28; log 7). -/
def Obligations.FramesOnlyInRun : Prop :=
  ∀ (i : Instr) (s : State),
    (s.phase = .halted → exec i s = .fault .halted) ∧ (s.phase = .boot → exec i s = .fault .notEnabled)

/-- The frame of the three classes that apply nothing: only the diagnostic trace changes. -/
def Obligations.NonLevelFramesKeepAll : Prop :=
  ∀ (i : Instr) (s t : State), (∀ l, i ≠ .level l) → exec i s = .next t → t = { s with diag := t.diag }

/-- The frame of LEVEL: what it leaves unchanged, by case. -/
def Obligations.LevelFrameKeeps : Prop :=
  ∀ (l : Level) (s t : State), exec (.level l) s = .next t →
    t = { s with
      current := l.zeroExtend 16
      lastAppliedAt := nowValue s
      phase := t.phase
      seq := t.seq
      irqMask := t.irqMask
      per := t.per
      diag := t.diag
      times := s.times.tail
      timeDraws := t.timeDraws
      answers := t.answers
      answerDraws := t.answerDraws } ∧
    (t.phase = .run ∨ t.phase = .halted) ∧ s.per <+: t.per ∧ s.diag <+: t.diag ∧
    (s.params.variant = .A → t.seq = s.seq ∧ t.irqMask = s.irqMask) ∧
    (s.params.variant = .B → t.phase = .run ∧ t.answers = s.answers ∧ t.answerDraws = s.answerDraws) ∧
    (s.current = l.zeroExtend 16 →
      t.phase = .run ∧ t.seq = s.seq ∧ t.irqMask = s.irqMask ∧ t.per = s.per ∧ t.answers = s.answers ∧
        t.answerDraws = s.answerDraws)

/-- The receipt line comes first for every class, then at most one event of the class (43_command_decoder.md section 3,
the spec's own choice, D16). -/
def Obligations.ReceiptLineFirst : Prop :=
  ∀ (i : Instr) (s t : State), exec i s = .next t →
    ∃ more, t.diag = s.diag ++ .rx (encode i) :: more ∧
      (more = [] ∨ (i = .ctrl ∧ more = [.ctrl]) ∨ (∃ l, i = .level l ∧ more = [.applied l] ∧ t.phase = .run))

/-- R133: a byte with the top bit clear succeeds exactly when `(b & 0x40) == PARMASK(b & 0x3F)`, that is when CHK holds,
and then the applied level is `b & 0x3F`; otherwise no register and no command. -/
def Obligations.DecodeSucceedsByParity : Prop :=
  ∀ (b : Byte) (s : State), s.phase = .run → b.getLsbD 7 = false →
    (chk b = true ↔ b &&& 0x40#8 = parMask (b &&& 0x3F#8)) ∧
    if b &&& 0x40#8 = parMask (b &&& 0x3F#8) then
      ∃ t, decodeByte b s = .next t ∧ t.current = (b &&& 0x3F#8).zeroExtend 16 ∧ t.lastAppliedAt = nowValue s
    else
      ∃ t, decodeByte b s = .next t ∧ t.current = s.current ∧ t.lastAppliedAt = s.lastAppliedAt ∧ t.per = s.per

/-! ### APPLY -/

/-- A level above 63 is a fault of the model, in BOOT and RUN (41_duty_cycle_register.md section 2; the spec's own
choice, D6). -/
def Obligations.ApplyOutOfRangeFaults : Prop :=
  ∀ (level : Duty) (now : Timestamp) (s : State), s.phase ≠ .halted → 63#16 < level →
    apply level now s = .error .range

/-- R92: every APPLY in range captures the operand `now`, changed or not, failed or not; no other frame does. -/
def Obligations.ApplyAlwaysStamps : Prop :=
  (∀ (level : Duty) (now : Timestamp) (s : State), s.phase ≠ .halted → level ≤ 63#16 →
    ∃ r, apply level now s = .ok r ∧ r.2.lastAppliedAt = now) ∧
  (∀ (i : Instr) (s t : State), (∀ l, i ≠ .level l) → exec i s = .next t → t.lastAppliedAt = s.lastAppliedAt)

/-- R93: the update detector: an equal level writes the timestamp and nothing else. -/
def Obligations.EqualLevelTouchesNothing : Prop :=
  ∀ (now : Timestamp) (s : State), s.phase ≠ .halted → s.current ≤ 63#16 →
    apply s.current now s = .ok (.noChange, { s with lastAppliedAt := now })

/-- An APPLY of another level writes `current`, then programs, then reports (41_duty_cycle_register.md section 2, R94);
when PROGRAM fails `current` is already written and nothing is reported (R95, the spec's own choice, D15; log 19). -/
def Obligations.ApplyUpdatesInOrder : Prop :=
  ∀ (level : Duty) (now : Timestamp) (s : State), s.phase ≠ .halted → level ≤ 63#16 → level ≠ s.current →
    let p := program (level.extractLsb' 0 6) { s with lastAppliedAt := now, current := level }
    (p.1 = .ok → apply level now s =
      .ok (.changed, { p.2 with diag := p.2.diag ++ [.applied (level.extractLsb' 0 6)] })) ∧
    (p.1 = .fail → ∃ r, apply level now s = .ok r ∧ r.2.current = level ∧ r.2.diag = s.diag)

/-- Idempotence, and one PROGRAM per APPLY whose level differed (41_duty_cycle_register.md section 3). -/
def Obligations.ApplyIsIdempotent : Prop :=
  (∀ (level : Duty) (t1 t2 : Timestamp) (s u : State) (r : ApplyResult), s.phase = .run → level ≤ 63#16 →
    apply level t1 s = .ok (r, u) → u.phase = .run →
    u.current = level ∧ u.lastAppliedAt = t1 ∧
      apply level t2 u = .ok (.noChange, { u with lastAppliedAt := t2 })) ∧
  (∀ (level : Duty) (now : Timestamp) (s u : State) (r : ApplyResult), apply level now s = .ok (r, u) →
    programCount u.per = programCount s.per + (if level = s.current then 0 else 1))

/-- R98: the first APPLY after reset is never skipped, whatever its level: that level is programmed. -/
def Obligations.FirstApplyNeverSkipped : Prop :=
  State.reset.current = 0xFFFF#16 ∧
  ∀ (level : Duty) (now : Timestamp) (s : State), s.phase ≠ .halted → s.current = 0xFFFF#16 → level ≤ 63#16 →
    ∃ r u, apply level now s = .ok (r, u) ∧ r ≠ .noChange ∧ u.current = level ∧
      u.per.filterMap dutyOf = s.per.filterMap dutyOf ++ [level.extractLsb' 0 6]

/-! ### The PWM sequencer -/

/-- R108: CONFIGURE in both variants; STARTUP invokes it once, before its APPLY; in RUN no step sends a CFG. -/
def Obligations.ConfigureOnce : Prop :=
  (∀ s : State, s.params.variant = .A → answerValue s = .ok →
    configure s = (none, perAsk (.cfg s.params.pwmPin s.params.pwmFreqHz 6) s)) ∧
  (∀ s : State, s.params.variant = .A → answerValue s = .fail →
    configure s = (some .periphInit,
      { perAsk (.cfg s.params.pwmPin s.params.pwmFreqHz 6) s with phase := .halted })) ∧
  (∀ s : State, s.params.variant = .B → configure s = (none, s)) ∧
  (∀ s t : State, s.phase = .boot → resetNow s = false → step s = .next t →
    ∃ sent, t.per =
        s.per ++ (if s.params.variant = .A then
          ⟨.cfg s.params.pwmPin s.params.pwmFreqHz 6, some (answerValue s), s.irqMask⟩ :: sent else sent) ∧
      ∀ c ∈ sent, ∀ pin freq res, c.cmd ≠ .cfg pin freq res) ∧
  (∀ s t : State, s.phase = .run → resetNow s = false → step s = .next t →
    ∃ sent, t.per = s.per ++ sent ∧ ∀ c ∈ sent, ∀ pin freq res, c.cmd ≠ .cfg pin freq res)

/-- R109: PROGRAM in variant A is one WR whose answer it returns. -/
def Obligations.ProgramVariantAWrites : Prop :=
  ∀ (l : Level) (s : State), s.params.variant = .A →
    program l s = (answerValue s, { s with
      per := s.per ++ [⟨.wr s.params.pwmPin l, some (answerValue s), s.irqMask⟩]
      answers := s.answers.tail
      answerDraws := if s.answers.isEmpty then s.answerDraws + 1 else s.answerDraws })

/-- R110: PROGRAM in variant B is all six commands in order, each under the mask; it returns ok, idle and unmasked. -/
def Obligations.ProgramVariantBSequence : Prop :=
  ∀ (l : Level) (s : State), s.params.variant = .B →
    program l s = (.ok, { s with
      seq := .idle
      irqMask := false
      per := s.per ++
        [⟨.tDisable, none, true⟩, ⟨.tWgm s.params.wgmMode, none, true⟩, ⟨.tTop s.params.topValue, none, true⟩,
          ⟨.tDuty l, none, true⟩, ⟨.tPindir s.params.pwmPin, none, true⟩, ⟨.tEnable, none, true⟩] })

/-- The state machine of 42_pwm_sequencer.md section 3 (the spec's own representation, D4): seven transitions from IDLE
are one PROGRAM, and irq_mask is 1 exactly while seq is not IDLE. -/
def Obligations.SequencerRefinesProgram : Prop :=
  ∀ (l : Level) (s : State), s.params.variant = .B → s.seq = .idle → s.irqMask = false →
    (seqAdvance l)^[7] s = (program l s).2 ∧
    ∀ k ≤ 7, (((seqAdvance l)^[k] s).irqMask = true ↔ ((seqAdvance l)^[k] s).seq ≠ .idle)

/-- The two variants give the same registers, phase and diagnostics on every run of k steps in which the peripheral
answers ok (42_pwm_sequencer.md section 1, the spec's D13). A step asks for at most two answers. -/
def Obligations.VariantsAgree : Prop :=
  ∀ (k : Nat) (a b : State), a.params.variant = .A → b.params.variant = .B → SameButVariant a b →
    2 * k ≤ a.answers.length → (∀ x ∈ a.answers, x = .ok) →
    OutcomesAgree SameButVariant (Host.Core.run core k a) (Host.Core.run core k b)

/-- R106: the ordering invariant; every step keeps it. -/
def Obligations.ModeBeforeDutyKept : Prop :=
  ∀ s t : State, ModeFirst s → step s = .next t → ModeFirst t

/-! ### The idle watchdog -/

/-- R141: up to and including the deadline nothing is applied. -/
def Obligations.WatchdogQuietUpToDeadline : Prop :=
  ∀ s : State, s.phase = .run → nowValue s - s.lastAppliedAt ≤ s.params.maxIdleTime →
    wdtCheck s = .next (afterNow s)

/-- R140: past the deadline one APPLY of 47 with the same sample; otherwise nothing. -/
def Obligations.WatchdogAppliesFallback : Prop :=
  ∀ s : State, s.phase = .run →
    (s.params.maxIdleTime < nowValue s - s.lastAppliedAt →
      ∃ r, apply 47#16 (nowValue s) (afterNow s) = .ok r ∧ wdtCheck s = .next r.2 ∧
        r.2.lastAppliedAt = nowValue s ∧ r.2.current = 47#16) ∧
    (¬ s.params.maxIdleTime < nowValue s - s.lastAppliedAt → wdtCheck s = .next (afterNow s))

/-- From the second firing on the fallback sends no command and emits nothing (44_idle_watchdog.md section 2, the spec's
own inference): only the timestamp is rewritten. -/
def Obligations.RepeatedFallbackIsSilent : Prop :=
  ∀ s : State, s.phase = .run → s.current = 47#16 → s.params.maxIdleTime < nowValue s - s.lastAppliedAt →
    wdtCheck s = .next (afterNow { s with lastAppliedAt := nowValue s })

/-- The modulo 2^32 difference (the spec's own choice, D7): the true elapsed time while time does not go back and less
than 2^32 ms pass, across a wrap too; a very large number when the clock jumps back. -/
def Obligations.ElapsedIsTrueTime : Prop :=
  (∀ T N : Nat, T ≤ N → N - T < 2 ^ 32 →
    (elapsed (BitVec.ofNat 32 N) (BitVec.ofNat 32 T)).toNat = N - T) ∧
  (∀ now last : Timestamp, now < last → (elapsed now last).toNat = 2 ^ 32 - (last.toNat - now.toNat))

/-- The extreme deadlines (44_idle_watchdog.md section 2, the spec's own inference): 2^32 − 1 never fires, 0 fires when
the sample differs from the timestamp. -/
def Obligations.DeadlineExtremes : Prop :=
  (∀ s : State, s.phase = .run → s.params.maxIdleTime = 0xFFFFFFFF#32 → wdtCheck s = .next (afterNow s)) ∧
  (∀ s : State, s.phase = .run → s.params.maxIdleTime = 0#32 → nowValue s ≠ s.lastAppliedAt →
    ∃ t, wdtCheck s = .next t ∧ t.current = 47#16) ∧
  (∀ s : State, s.phase = .run → s.params.maxIdleTime = 0#32 → nowValue s = s.lastAppliedAt →
    wdtCheck s = .next (afterNow s))

/-- After a startup with no commands sent, the first check past the deadline applies 47 and programs it, unless the
write fails (44_idle_watchdog.md section 2; 95_test_vectors.md S8). -/
def Obligations.SilentStartFallsBack : Prop :=
  ∀ s t u : State, s.phase = .boot → s.current = 0xFFFF#16 → resetNow s = false → step s = .next t → t.phase = .run →
    resetNow t = false → t.rx ++ arriving t = [] → t.params.maxIdleTime < nowValue t - nowValue (configure s).2 →
    step t = .next u →
    t.current = 63#16 ∧ u.current = 47#16 ∧ u.lastAppliedAt = nowValue t ∧
      (u.phase = .run → outLevel u.per = some 47#6)

/-! ### The loop, the step, reset and startup -/

/-- R41: RxPop is a destructive read of the oldest byte, and changes nothing on an empty stream. -/
def Obligations.RxPopIsFifo : Prop :=
  (∀ s : State, s.rx = [] → rxPop s = (none, s)) ∧
  (∀ (s : State) (b : Byte) (rest : List Byte), s.rx = b :: rest → rxPop s = (some b, { s with rx := rest })) ∧
  (∀ s : State, (delivered s).rx = s.rx ++ arriving s)

/-- A step runs the decoded frame: in RUN, with no reset at the line, the step is exec of the class of the oldest byte,
on the state with that byte removed. -/
def Obligations.StepRunsDecodedFrame : Prop :=
  ∀ (s : State) (b : Byte) (rest : List Byte), s.phase = .run → resetNow s = false → s.rx ++ arriving s = b :: rest →
    (decode b).wf = true ∧ step s = exec (decode b) { delivered (lineRead s) with rx := rest }

/-- In RUN with an empty stream the step is the watchdog check that ends the iteration; the yield changes nothing
(45_scheduler_loop.md section 1). -/
def Obligations.StepChecksWatchdogWhenDrained : Prop :=
  ∀ s : State, s.phase = .run → resetNow s = false → s.rx ++ arriving s = [] →
    step s = wdtCheck (delivered (lineRead s)) ∧ ∃ t, step s = .next t

/-- R187: STARTUP from the state reset leaves: its four ends. `c` is the state after CFG, `n` after the sample. -/
def Obligations.StartupOutcomes : Prop :=
  ∀ s : State, s.phase = .boot → s.current = 0xFFFF#16 → resetNow s = false →
    let c := perAsk (.cfg s.params.pwmPin s.params.pwmFreqHz 6) (lineRead s)
    (s.params.variant = .A → answerValue s = .fail → step s = .next { c with phase := .halted }) ∧
    (s.params.variant = .A → answerValue s = .ok → answerValue c = .ok →
      step s = .next { perAsk (.wr s.params.pwmPin 63#6) (afterNow c) with
        current := 63#16, lastAppliedAt := nowValue s, phase := .run, diag := s.diag ++ [.applied 63#6] }) ∧
    (s.params.variant = .A → answerValue s = .ok → answerValue c = .fail →
      step s = .next { perAsk (.wr s.params.pwmPin 63#6) (afterNow c) with
        current := 63#16, lastAppliedAt := nowValue s, phase := .halted }) ∧
    (s.params.variant = .B →
      step s = .next { afterNow (lineRead s) with
        current := 63#16
        lastAppliedAt := nowValue s
        phase := .run
        seq := .idle
        irqMask := false
        per := s.per ++
          [⟨.tDisable, none, true⟩, ⟨.tWgm s.params.wgmMode, none, true⟩, ⟨.tTop s.params.topValue, none, true⟩,
            ⟨.tDuty 63#6, none, true⟩, ⟨.tPindir s.params.pwmPin, none, true⟩, ⟨.tEnable, none, true⟩]
        diag := s.diag ++ [.applied 63#6] })

/-- After a halt nothing is enabled: the machine stops, until a reset event (the spec's D3 and D28; log 7). -/
def Obligations.HaltedStopsUntilReset : Prop :=
  ∀ s : State, s.phase = .halted →
    (resetNow s = false → step s = .fault .halted) ∧
    (resetNow s = true → ∃ t, step s = .next t ∧ t.phase = .boot)

/-- A reset event in any phase gives the reset values and keeps the RX stream, the other inputs and the parameters
(70_reset_and_hazards.md section 1, D19, D20; the emptied command trace and the free timestamp are the model's choice,
log 5 and 9). -/
def Obligations.ResetEventReinitialises : Prop :=
  ∀ s : State, resetNow s = true →
    step s = .next { s with
      current := 0xFFFF#16
      lastAppliedAt := Config.resetTimestamp s.resetDraws
      phase := .boot
      seq := .idle
      irqMask := false
      per := []
      diag := []
      resetIn := s.resetIn.tail
      resetDraws := s.resetDraws + 1 }

/-- The reset values the spec gives (10_state.md section 11, 70_reset_and_hazards.md section 1; phase, seq and irq_mask by
the spec's D3 and D4). -/
def Obligations.ResetValues : Prop :=
  State.reset.current = 0xFFFF#16 ∧ State.reset.phase = .boot ∧ State.reset.seq = .idle ∧
    State.reset.irqMask = false ∧ State.reset.diag = []

/-- The phase moves only as 10_state.md section 3 says (the spec's D3). -/
def Obligations.PhaseMoves : Prop :=
  ∀ s t : State, step s = .next t →
    (resetNow s = true ∧ t.phase = .boot) ∨
    (resetNow s = false ∧ s.phase = .boot ∧ (t.phase = .run ∨ t.phase = .halted)) ∨
    (resetNow s = false ∧ s.phase = .run ∧ (t.phase = .run ∨ t.phase = .halted))

/-- What can change `current` or `lastAppliedAt` at all: a reset, the startup's APPLY of 63, an accepted LEVEL byte's
APPLY of its level, the watchdog's APPLY of 47 (10_state.md section 10, 44_idle_watchdog.md section 2). -/
def Obligations.OnlyApplyWritesTheRegisters : Prop :=
  ∀ s t : State, step s = .next t →
    (t.current = s.current ∧ t.lastAppliedAt = s.lastAppliedAt) ∨
    resetNow s = true ∨
    (s.phase = .boot ∧ t.current = 63#16 ∧ t.lastAppliedAt = nowValue (configure (lineRead s)).2) ∨
    (s.phase = .run ∧ ∃ b rest, s.rx ++ arriving s = b :: rest ∧ b.getLsbD 7 = false ∧ chk b = true ∧
      t.current = (b &&& 0x3F#8).zeroExtend 16 ∧ t.lastAppliedAt = nowValue s) ∨
    (s.phase = .run ∧ s.rx ++ arriving s = [] ∧ s.params.maxIdleTime < nowValue s - s.lastAppliedAt ∧
      t.current = 47#16 ∧ t.lastAppliedAt = nowValue s)

/-- The range of `current` (10_state.md section 10, the spec's own inference): every step keeps it. -/
def Obligations.DutyRangeKept : Prop :=
  ∀ s t : State, DutyInRange s → step s = .next t → DutyInRange t

/-- Between operations the sequencer is idle and no interrupt is masked (the spec's D4): every step keeps it. -/
def Obligations.SequencerIdleKept : Prop :=
  ∀ s t : State, SequencerIdle s → step s = .next t → SequencerIdle t

/-- In RUN the output level follows `current` (95_test_vectors.md, claim 3): every step keeps it. -/
def Obligations.OutputFollowsDutyKept : Prop :=
  ∀ s t : State, DutyInRange s → OutputFollowsDuty s → step s = .next t → OutputFollowsDuty t

/-- The first duty given to the peripheral since the last reset is 63 (42_pwm_sequencer.md section 4, the spec's own
inference): every step keeps it. A reset step keeps it because it empties the command trace, the model's choice (log 9). -/
def Obligations.FirstDutyFullKept : Prop :=
  ∀ s t : State, DutyInRange s → FirstDutyFull s → step s = .next t → FirstDutyFull t

/-- The invariants hold at reset. -/
def Obligations.InvariantsAtReset : Prop :=
  DutyInRange State.reset ∧ SequencerIdle State.reset ∧ ModeFirst State.reset ∧ OutputFollowsDuty State.reset ∧
    FirstDutyFull State.reset

/-- No step changes an open parameter (10_state.md section 6). -/
def Obligations.ParametersConstant : Prop :=
  ∀ s t : State, step s = .next t → t.params = s.params

/-- Variant B never halts (42_pwm_sequencer.md section 3, the spec's own choice, D25). -/
def Obligations.VariantBNeverHalts : Prop :=
  ∀ s : State, s.params.variant = .B → s.phase ≠ .halted → ∃ t, step s = .next t ∧ t.phase ≠ .halted

/-- No rule reads the diagnostic trace or the command trace: a run from a state with other traces makes the same moves
(10_state.md section 13, the spec's D16; 20_memory.md section 1). -/
def Obligations.TracesNeverRead : Prop :=
  ∀ (k : Nat) (s : State) (per : List Sent) (diag : List DiagEvent),
    OutcomesAgree (fun t u => u = { t with per := u.per, diag := u.diag })
      (Host.Core.run core k s) (Host.Core.run core k { s with per := per, diag := diag })

/-- A LOOP_ITER whose drain ends is a run of steps: the frames in arrival order, then one watchdog check
(45_scheduler_loop.md sections 1 and 2). -/
def Obligations.LoopIterationIsSteps : Prop :=
  ∀ (n : Nat) (s : State) (o : Outcome), s.phase = .run → s.resetIn = [] → loopIter n s = some o →
    ∃ k, 1 ≤ k ∧ k ≤ n ∧ Host.Core.run core k s = o

/-- A buffered valid frame beats the deadline: the check of the same iteration sees the fresh timestamp, however long
the silence before it (45_scheduler_loop.md section 2, the spec's own inference). -/
def Obligations.BufferedFrameBeatsDeadline : Prop :=
  ∀ (l : Level) (s : State) (t1 t2 : Timestamp) (later : List Timestamp) (batches : List (List Byte)),
    s.phase = .run → s.rx = [enc l] → s.arrivals = [] :: [] :: batches → s.times = t1 :: t2 :: later →
    t2 - t1 ≤ s.params.maxIdleTime →
    ∃ u, loopIter 2 s = some (.next u) ∧ u.current = l.zeroExtend 16 ∧ u.lastAppliedAt = t1

/-- The environment's primitives: Now, the peripheral's answers and the arriving bytes are the scripted inputs in
order, and free values after them (10_state.md section 8; the scripts are the model's choice, log 2, and so is the
delivery of one batch at a time, log 3). -/
def Obligations.InputsInOrder : Prop :=
  (∀ (s : State) (t : Timestamp) (ts : List Timestamp), s.times = t :: ts →
    nowValue s = t ∧ afterNow s = { s with times := ts }) ∧
  (∀ s : State, s.times = [] →
    nowValue s = Config.freeTime s.timeDraws ∧ afterNow s = { s with timeDraws := s.timeDraws + 1 }) ∧
  (∀ (s : State) (c : PerCmd) (a : Answer) (as : List Answer), s.answers = a :: as →
    answerValue s = a ∧ perAsk c s = { s with per := s.per ++ [⟨c, some a, s.irqMask⟩], answers := as }) ∧
  (∀ (s : State) (c : PerCmd), s.answers = [] →
    answerValue s = Config.freeAnswer s.answerDraws ∧
    perAsk c s = { s with
      per := s.per ++ [⟨c, some (Config.freeAnswer s.answerDraws), s.irqMask⟩], answerDraws := s.answerDraws + 1 }) ∧
  (∀ (s : State) (batch : List Byte) (later : List (List Byte)), s.arrivals = batch :: later →
    arriving s = batch ∧ delivered s = { s with rx := s.rx ++ batch, arrivals := later }) ∧
  (∀ s : State, s.arrivals = [] →
    arriving s = Config.freeArrival s.arrivalDraws ∧
    delivered s = { s with
      rx := s.rx ++ Config.freeArrival s.arrivalDraws, arrivalDraws := s.arrivalDraws + 1 })
end

