-- ==== Sys2Proof/Laws/State.lean ====
section
/-! SUPPORT. One lemma per field per update of State: what each named operation writes, and that it writes nothing
else; and which operations an input of the environment does not see. -/

namespace Sys2Proof.Machine

@[simp] theorem setCurrent_current (level : Duty) (s : State) : (setCurrent level s).current = level := rfl
@[simp] theorem setCurrent_lastAppliedAt (level : Duty) (s : State) : (setCurrent level s).lastAppliedAt = s.lastAppliedAt := rfl
@[simp] theorem setCurrent_phase (level : Duty) (s : State) : (setCurrent level s).phase = s.phase := rfl
@[simp] theorem setCurrent_seq (level : Duty) (s : State) : (setCurrent level s).seq = s.seq := rfl
@[simp] theorem setCurrent_irqMask (level : Duty) (s : State) : (setCurrent level s).irqMask = s.irqMask := rfl
@[simp] theorem setCurrent_per (level : Duty) (s : State) : (setCurrent level s).per = s.per := rfl
@[simp] theorem setCurrent_diag (level : Duty) (s : State) : (setCurrent level s).diag = s.diag := rfl
@[simp] theorem setCurrent_rx (level : Duty) (s : State) : (setCurrent level s).rx = s.rx := rfl
@[simp] theorem setCurrent_arrivals (level : Duty) (s : State) : (setCurrent level s).arrivals = s.arrivals := rfl
@[simp] theorem setCurrent_arrivalDraws (level : Duty) (s : State) : (setCurrent level s).arrivalDraws = s.arrivalDraws := rfl
@[simp] theorem setCurrent_times (level : Duty) (s : State) : (setCurrent level s).times = s.times := rfl
@[simp] theorem setCurrent_timeDraws (level : Duty) (s : State) : (setCurrent level s).timeDraws = s.timeDraws := rfl
@[simp] theorem setCurrent_answers (level : Duty) (s : State) : (setCurrent level s).answers = s.answers := rfl
@[simp] theorem setCurrent_answerDraws (level : Duty) (s : State) : (setCurrent level s).answerDraws = s.answerDraws := rfl
@[simp] theorem setCurrent_resetIn (level : Duty) (s : State) : (setCurrent level s).resetIn = s.resetIn := rfl
@[simp] theorem setCurrent_resetDraws (level : Duty) (s : State) : (setCurrent level s).resetDraws = s.resetDraws := rfl
@[simp] theorem setCurrent_params (level : Duty) (s : State) : (setCurrent level s).params = s.params := rfl
@[simp] theorem nowValue_setCurrent (level : Duty) (s : State) : nowValue (setCurrent level s) = nowValue s := rfl
@[simp] theorem answerValue_setCurrent (level : Duty) (s : State) : answerValue (setCurrent level s) = answerValue s := rfl
@[simp] theorem arriving_setCurrent (level : Duty) (s : State) : arriving (setCurrent level s) = arriving s := rfl
@[simp] theorem resetNow_setCurrent (level : Duty) (s : State) : resetNow (setCurrent level s) = resetNow s := rfl

@[simp] theorem stamp_current (now : Timestamp) (s : State) : (stamp now s).current = s.current := rfl
@[simp] theorem stamp_lastAppliedAt (now : Timestamp) (s : State) : (stamp now s).lastAppliedAt = now := rfl
@[simp] theorem stamp_phase (now : Timestamp) (s : State) : (stamp now s).phase = s.phase := rfl
@[simp] theorem stamp_seq (now : Timestamp) (s : State) : (stamp now s).seq = s.seq := rfl
@[simp] theorem stamp_irqMask (now : Timestamp) (s : State) : (stamp now s).irqMask = s.irqMask := rfl
@[simp] theorem stamp_per (now : Timestamp) (s : State) : (stamp now s).per = s.per := rfl
@[simp] theorem stamp_diag (now : Timestamp) (s : State) : (stamp now s).diag = s.diag := rfl
@[simp] theorem stamp_rx (now : Timestamp) (s : State) : (stamp now s).rx = s.rx := rfl
@[simp] theorem stamp_arrivals (now : Timestamp) (s : State) : (stamp now s).arrivals = s.arrivals := rfl
@[simp] theorem stamp_arrivalDraws (now : Timestamp) (s : State) : (stamp now s).arrivalDraws = s.arrivalDraws := rfl
@[simp] theorem stamp_times (now : Timestamp) (s : State) : (stamp now s).times = s.times := rfl
@[simp] theorem stamp_timeDraws (now : Timestamp) (s : State) : (stamp now s).timeDraws = s.timeDraws := rfl
@[simp] theorem stamp_answers (now : Timestamp) (s : State) : (stamp now s).answers = s.answers := rfl
@[simp] theorem stamp_answerDraws (now : Timestamp) (s : State) : (stamp now s).answerDraws = s.answerDraws := rfl
@[simp] theorem stamp_resetIn (now : Timestamp) (s : State) : (stamp now s).resetIn = s.resetIn := rfl
@[simp] theorem stamp_resetDraws (now : Timestamp) (s : State) : (stamp now s).resetDraws = s.resetDraws := rfl
@[simp] theorem stamp_params (now : Timestamp) (s : State) : (stamp now s).params = s.params := rfl
@[simp] theorem nowValue_stamp (now : Timestamp) (s : State) : nowValue (stamp now s) = nowValue s := rfl
@[simp] theorem answerValue_stamp (now : Timestamp) (s : State) : answerValue (stamp now s) = answerValue s := rfl
@[simp] theorem arriving_stamp (now : Timestamp) (s : State) : arriving (stamp now s) = arriving s := rfl
@[simp] theorem resetNow_stamp (now : Timestamp) (s : State) : resetNow (stamp now s) = resetNow s := rfl

@[simp] theorem setPhase_current (p : Phase) (s : State) : (setPhase p s).current = s.current := rfl
@[simp] theorem setPhase_lastAppliedAt (p : Phase) (s : State) : (setPhase p s).lastAppliedAt = s.lastAppliedAt := rfl
@[simp] theorem setPhase_phase (p : Phase) (s : State) : (setPhase p s).phase = p := rfl
@[simp] theorem setPhase_seq (p : Phase) (s : State) : (setPhase p s).seq = s.seq := rfl
@[simp] theorem setPhase_irqMask (p : Phase) (s : State) : (setPhase p s).irqMask = s.irqMask := rfl
@[simp] theorem setPhase_per (p : Phase) (s : State) : (setPhase p s).per = s.per := rfl
@[simp] theorem setPhase_diag (p : Phase) (s : State) : (setPhase p s).diag = s.diag := rfl
@[simp] theorem setPhase_rx (p : Phase) (s : State) : (setPhase p s).rx = s.rx := rfl
@[simp] theorem setPhase_arrivals (p : Phase) (s : State) : (setPhase p s).arrivals = s.arrivals := rfl
@[simp] theorem setPhase_arrivalDraws (p : Phase) (s : State) : (setPhase p s).arrivalDraws = s.arrivalDraws := rfl
@[simp] theorem setPhase_times (p : Phase) (s : State) : (setPhase p s).times = s.times := rfl
@[simp] theorem setPhase_timeDraws (p : Phase) (s : State) : (setPhase p s).timeDraws = s.timeDraws := rfl
@[simp] theorem setPhase_answers (p : Phase) (s : State) : (setPhase p s).answers = s.answers := rfl
@[simp] theorem setPhase_answerDraws (p : Phase) (s : State) : (setPhase p s).answerDraws = s.answerDraws := rfl
@[simp] theorem setPhase_resetIn (p : Phase) (s : State) : (setPhase p s).resetIn = s.resetIn := rfl
@[simp] theorem setPhase_resetDraws (p : Phase) (s : State) : (setPhase p s).resetDraws = s.resetDraws := rfl
@[simp] theorem setPhase_params (p : Phase) (s : State) : (setPhase p s).params = s.params := rfl
@[simp] theorem nowValue_setPhase (p : Phase) (s : State) : nowValue (setPhase p s) = nowValue s := rfl
@[simp] theorem answerValue_setPhase (p : Phase) (s : State) : answerValue (setPhase p s) = answerValue s := rfl
@[simp] theorem arriving_setPhase (p : Phase) (s : State) : arriving (setPhase p s) = arriving s := rfl
@[simp] theorem resetNow_setPhase (p : Phase) (s : State) : resetNow (setPhase p s) = resetNow s := rfl

@[simp] theorem setSeq_current (q : Seq) (m : Bool) (s : State) : (setSeq q m s).current = s.current := rfl
@[simp] theorem setSeq_lastAppliedAt (q : Seq) (m : Bool) (s : State) : (setSeq q m s).lastAppliedAt = s.lastAppliedAt := rfl
@[simp] theorem setSeq_phase (q : Seq) (m : Bool) (s : State) : (setSeq q m s).phase = s.phase := rfl
@[simp] theorem setSeq_seq (q : Seq) (m : Bool) (s : State) : (setSeq q m s).seq = q := rfl
@[simp] theorem setSeq_irqMask (q : Seq) (m : Bool) (s : State) : (setSeq q m s).irqMask = m := rfl
@[simp] theorem setSeq_per (q : Seq) (m : Bool) (s : State) : (setSeq q m s).per = s.per := rfl
@[simp] theorem setSeq_diag (q : Seq) (m : Bool) (s : State) : (setSeq q m s).diag = s.diag := rfl
@[simp] theorem setSeq_rx (q : Seq) (m : Bool) (s : State) : (setSeq q m s).rx = s.rx := rfl
@[simp] theorem setSeq_arrivals (q : Seq) (m : Bool) (s : State) : (setSeq q m s).arrivals = s.arrivals := rfl
@[simp] theorem setSeq_arrivalDraws (q : Seq) (m : Bool) (s : State) : (setSeq q m s).arrivalDraws = s.arrivalDraws := rfl
@[simp] theorem setSeq_times (q : Seq) (m : Bool) (s : State) : (setSeq q m s).times = s.times := rfl
@[simp] theorem setSeq_timeDraws (q : Seq) (m : Bool) (s : State) : (setSeq q m s).timeDraws = s.timeDraws := rfl
@[simp] theorem setSeq_answers (q : Seq) (m : Bool) (s : State) : (setSeq q m s).answers = s.answers := rfl
@[simp] theorem setSeq_answerDraws (q : Seq) (m : Bool) (s : State) : (setSeq q m s).answerDraws = s.answerDraws := rfl
@[simp] theorem setSeq_resetIn (q : Seq) (m : Bool) (s : State) : (setSeq q m s).resetIn = s.resetIn := rfl
@[simp] theorem setSeq_resetDraws (q : Seq) (m : Bool) (s : State) : (setSeq q m s).resetDraws = s.resetDraws := rfl
@[simp] theorem setSeq_params (q : Seq) (m : Bool) (s : State) : (setSeq q m s).params = s.params := rfl
@[simp] theorem nowValue_setSeq (q : Seq) (m : Bool) (s : State) : nowValue (setSeq q m s) = nowValue s := rfl
@[simp] theorem answerValue_setSeq (q : Seq) (m : Bool) (s : State) : answerValue (setSeq q m s) = answerValue s := rfl
@[simp] theorem arriving_setSeq (q : Seq) (m : Bool) (s : State) : arriving (setSeq q m s) = arriving s := rfl
@[simp] theorem resetNow_setSeq (q : Seq) (m : Bool) (s : State) : resetNow (setSeq q m s) = resetNow s := rfl

@[simp] theorem setRx_current (rest : List Byte) (s : State) : (setRx rest s).current = s.current := rfl
@[simp] theorem setRx_lastAppliedAt (rest : List Byte) (s : State) : (setRx rest s).lastAppliedAt = s.lastAppliedAt := rfl
@[simp] theorem setRx_phase (rest : List Byte) (s : State) : (setRx rest s).phase = s.phase := rfl
@[simp] theorem setRx_seq (rest : List Byte) (s : State) : (setRx rest s).seq = s.seq := rfl
@[simp] theorem setRx_irqMask (rest : List Byte) (s : State) : (setRx rest s).irqMask = s.irqMask := rfl
@[simp] theorem setRx_per (rest : List Byte) (s : State) : (setRx rest s).per = s.per := rfl
@[simp] theorem setRx_diag (rest : List Byte) (s : State) : (setRx rest s).diag = s.diag := rfl
@[simp] theorem setRx_rx (rest : List Byte) (s : State) : (setRx rest s).rx = rest := rfl
@[simp] theorem setRx_arrivals (rest : List Byte) (s : State) : (setRx rest s).arrivals = s.arrivals := rfl
@[simp] theorem setRx_arrivalDraws (rest : List Byte) (s : State) : (setRx rest s).arrivalDraws = s.arrivalDraws := rfl
@[simp] theorem setRx_times (rest : List Byte) (s : State) : (setRx rest s).times = s.times := rfl
@[simp] theorem setRx_timeDraws (rest : List Byte) (s : State) : (setRx rest s).timeDraws = s.timeDraws := rfl
@[simp] theorem setRx_answers (rest : List Byte) (s : State) : (setRx rest s).answers = s.answers := rfl
@[simp] theorem setRx_answerDraws (rest : List Byte) (s : State) : (setRx rest s).answerDraws = s.answerDraws := rfl
@[simp] theorem setRx_resetIn (rest : List Byte) (s : State) : (setRx rest s).resetIn = s.resetIn := rfl
@[simp] theorem setRx_resetDraws (rest : List Byte) (s : State) : (setRx rest s).resetDraws = s.resetDraws := rfl
@[simp] theorem setRx_params (rest : List Byte) (s : State) : (setRx rest s).params = s.params := rfl
@[simp] theorem nowValue_setRx (rest : List Byte) (s : State) : nowValue (setRx rest s) = nowValue s := rfl
@[simp] theorem answerValue_setRx (rest : List Byte) (s : State) : answerValue (setRx rest s) = answerValue s := rfl
@[simp] theorem arriving_setRx (rest : List Byte) (s : State) : arriving (setRx rest s) = arriving s := rfl
@[simp] theorem resetNow_setRx (rest : List Byte) (s : State) : resetNow (setRx rest s) = resetNow s := rfl

@[simp] theorem emit_current (e : DiagEvent) (s : State) : (emit e s).current = s.current := rfl
@[simp] theorem emit_lastAppliedAt (e : DiagEvent) (s : State) : (emit e s).lastAppliedAt = s.lastAppliedAt := rfl
@[simp] theorem emit_phase (e : DiagEvent) (s : State) : (emit e s).phase = s.phase := rfl
@[simp] theorem emit_seq (e : DiagEvent) (s : State) : (emit e s).seq = s.seq := rfl
@[simp] theorem emit_irqMask (e : DiagEvent) (s : State) : (emit e s).irqMask = s.irqMask := rfl
@[simp] theorem emit_per (e : DiagEvent) (s : State) : (emit e s).per = s.per := rfl
@[simp] theorem emit_diag (e : DiagEvent) (s : State) : (emit e s).diag = s.diag ++ [e] := rfl
@[simp] theorem emit_rx (e : DiagEvent) (s : State) : (emit e s).rx = s.rx := rfl
@[simp] theorem emit_arrivals (e : DiagEvent) (s : State) : (emit e s).arrivals = s.arrivals := rfl
@[simp] theorem emit_arrivalDraws (e : DiagEvent) (s : State) : (emit e s).arrivalDraws = s.arrivalDraws := rfl
@[simp] theorem emit_times (e : DiagEvent) (s : State) : (emit e s).times = s.times := rfl
@[simp] theorem emit_timeDraws (e : DiagEvent) (s : State) : (emit e s).timeDraws = s.timeDraws := rfl
@[simp] theorem emit_answers (e : DiagEvent) (s : State) : (emit e s).answers = s.answers := rfl
@[simp] theorem emit_answerDraws (e : DiagEvent) (s : State) : (emit e s).answerDraws = s.answerDraws := rfl
@[simp] theorem emit_resetIn (e : DiagEvent) (s : State) : (emit e s).resetIn = s.resetIn := rfl
@[simp] theorem emit_resetDraws (e : DiagEvent) (s : State) : (emit e s).resetDraws = s.resetDraws := rfl
@[simp] theorem emit_params (e : DiagEvent) (s : State) : (emit e s).params = s.params := rfl
@[simp] theorem nowValue_emit (e : DiagEvent) (s : State) : nowValue (emit e s) = nowValue s := rfl
@[simp] theorem answerValue_emit (e : DiagEvent) (s : State) : answerValue (emit e s) = answerValue s := rfl
@[simp] theorem arriving_emit (e : DiagEvent) (s : State) : arriving (emit e s) = arriving s := rfl
@[simp] theorem resetNow_emit (e : DiagEvent) (s : State) : resetNow (emit e s) = resetNow s := rfl

@[simp] theorem afterNow_current (s : State) : (afterNow s).current = s.current := rfl
@[simp] theorem afterNow_lastAppliedAt (s : State) : (afterNow s).lastAppliedAt = s.lastAppliedAt := rfl
@[simp] theorem afterNow_phase (s : State) : (afterNow s).phase = s.phase := rfl
@[simp] theorem afterNow_seq (s : State) : (afterNow s).seq = s.seq := rfl
@[simp] theorem afterNow_irqMask (s : State) : (afterNow s).irqMask = s.irqMask := rfl
@[simp] theorem afterNow_per (s : State) : (afterNow s).per = s.per := rfl
@[simp] theorem afterNow_diag (s : State) : (afterNow s).diag = s.diag := rfl
@[simp] theorem afterNow_rx (s : State) : (afterNow s).rx = s.rx := rfl
@[simp] theorem afterNow_arrivals (s : State) : (afterNow s).arrivals = s.arrivals := rfl
@[simp] theorem afterNow_arrivalDraws (s : State) : (afterNow s).arrivalDraws = s.arrivalDraws := rfl
@[simp] theorem afterNow_times (s : State) : (afterNow s).times = s.times.tail := rfl
@[simp] theorem afterNow_timeDraws (s : State) : (afterNow s).timeDraws = if s.times.isEmpty then s.timeDraws + 1 else s.timeDraws := rfl
@[simp] theorem afterNow_answers (s : State) : (afterNow s).answers = s.answers := rfl
@[simp] theorem afterNow_answerDraws (s : State) : (afterNow s).answerDraws = s.answerDraws := rfl
@[simp] theorem afterNow_resetIn (s : State) : (afterNow s).resetIn = s.resetIn := rfl
@[simp] theorem afterNow_resetDraws (s : State) : (afterNow s).resetDraws = s.resetDraws := rfl
@[simp] theorem afterNow_params (s : State) : (afterNow s).params = s.params := rfl
@[simp] theorem answerValue_afterNow (s : State) : answerValue (afterNow s) = answerValue s := rfl
@[simp] theorem arriving_afterNow (s : State) : arriving (afterNow s) = arriving s := rfl
@[simp] theorem resetNow_afterNow (s : State) : resetNow (afterNow s) = resetNow s := rfl

@[simp] theorem delivered_current (s : State) : (delivered s).current = s.current := rfl
@[simp] theorem delivered_lastAppliedAt (s : State) : (delivered s).lastAppliedAt = s.lastAppliedAt := rfl
@[simp] theorem delivered_phase (s : State) : (delivered s).phase = s.phase := rfl
@[simp] theorem delivered_seq (s : State) : (delivered s).seq = s.seq := rfl
@[simp] theorem delivered_irqMask (s : State) : (delivered s).irqMask = s.irqMask := rfl
@[simp] theorem delivered_per (s : State) : (delivered s).per = s.per := rfl
@[simp] theorem delivered_diag (s : State) : (delivered s).diag = s.diag := rfl
@[simp] theorem delivered_rx (s : State) : (delivered s).rx = s.rx ++ arriving s := rfl
@[simp] theorem delivered_arrivals (s : State) : (delivered s).arrivals = s.arrivals.tail := rfl
@[simp] theorem delivered_arrivalDraws (s : State) : (delivered s).arrivalDraws = if s.arrivals.isEmpty then s.arrivalDraws + 1 else s.arrivalDraws := rfl
@[simp] theorem delivered_times (s : State) : (delivered s).times = s.times := rfl
@[simp] theorem delivered_timeDraws (s : State) : (delivered s).timeDraws = s.timeDraws := rfl
@[simp] theorem delivered_answers (s : State) : (delivered s).answers = s.answers := rfl
@[simp] theorem delivered_answerDraws (s : State) : (delivered s).answerDraws = s.answerDraws := rfl
@[simp] theorem delivered_resetIn (s : State) : (delivered s).resetIn = s.resetIn := rfl
@[simp] theorem delivered_resetDraws (s : State) : (delivered s).resetDraws = s.resetDraws := rfl
@[simp] theorem delivered_params (s : State) : (delivered s).params = s.params := rfl
@[simp] theorem nowValue_delivered (s : State) : nowValue (delivered s) = nowValue s := rfl
@[simp] theorem answerValue_delivered (s : State) : answerValue (delivered s) = answerValue s := rfl
@[simp] theorem resetNow_delivered (s : State) : resetNow (delivered s) = resetNow s := rfl

@[simp] theorem perTell_current (c : PerCmd) (s : State) : (perTell c s).current = s.current := rfl
@[simp] theorem perTell_lastAppliedAt (c : PerCmd) (s : State) : (perTell c s).lastAppliedAt = s.lastAppliedAt := rfl
@[simp] theorem perTell_phase (c : PerCmd) (s : State) : (perTell c s).phase = s.phase := rfl
@[simp] theorem perTell_seq (c : PerCmd) (s : State) : (perTell c s).seq = s.seq := rfl
@[simp] theorem perTell_irqMask (c : PerCmd) (s : State) : (perTell c s).irqMask = s.irqMask := rfl
@[simp] theorem perTell_per (c : PerCmd) (s : State) : (perTell c s).per = s.per ++ [⟨c, none, s.irqMask⟩] := rfl
@[simp] theorem perTell_diag (c : PerCmd) (s : State) : (perTell c s).diag = s.diag := rfl
@[simp] theorem perTell_rx (c : PerCmd) (s : State) : (perTell c s).rx = s.rx := rfl
@[simp] theorem perTell_arrivals (c : PerCmd) (s : State) : (perTell c s).arrivals = s.arrivals := rfl
@[simp] theorem perTell_arrivalDraws (c : PerCmd) (s : State) : (perTell c s).arrivalDraws = s.arrivalDraws := rfl
@[simp] theorem perTell_times (c : PerCmd) (s : State) : (perTell c s).times = s.times := rfl
@[simp] theorem perTell_timeDraws (c : PerCmd) (s : State) : (perTell c s).timeDraws = s.timeDraws := rfl
@[simp] theorem perTell_answers (c : PerCmd) (s : State) : (perTell c s).answers = s.answers := rfl
@[simp] theorem perTell_answerDraws (c : PerCmd) (s : State) : (perTell c s).answerDraws = s.answerDraws := rfl
@[simp] theorem perTell_resetIn (c : PerCmd) (s : State) : (perTell c s).resetIn = s.resetIn := rfl
@[simp] theorem perTell_resetDraws (c : PerCmd) (s : State) : (perTell c s).resetDraws = s.resetDraws := rfl
@[simp] theorem perTell_params (c : PerCmd) (s : State) : (perTell c s).params = s.params := rfl
@[simp] theorem nowValue_perTell (c : PerCmd) (s : State) : nowValue (perTell c s) = nowValue s := rfl
@[simp] theorem answerValue_perTell (c : PerCmd) (s : State) : answerValue (perTell c s) = answerValue s := rfl
@[simp] theorem arriving_perTell (c : PerCmd) (s : State) : arriving (perTell c s) = arriving s := rfl
@[simp] theorem resetNow_perTell (c : PerCmd) (s : State) : resetNow (perTell c s) = resetNow s := rfl

@[simp] theorem perAsk_current (c : PerCmd) (s : State) : (perAsk c s).current = s.current := rfl
@[simp] theorem perAsk_lastAppliedAt (c : PerCmd) (s : State) : (perAsk c s).lastAppliedAt = s.lastAppliedAt := rfl
@[simp] theorem perAsk_phase (c : PerCmd) (s : State) : (perAsk c s).phase = s.phase := rfl
@[simp] theorem perAsk_seq (c : PerCmd) (s : State) : (perAsk c s).seq = s.seq := rfl
@[simp] theorem perAsk_irqMask (c : PerCmd) (s : State) : (perAsk c s).irqMask = s.irqMask := rfl
@[simp] theorem perAsk_per (c : PerCmd) (s : State) : (perAsk c s).per = s.per ++ [⟨c, some (answerValue s), s.irqMask⟩] := rfl
@[simp] theorem perAsk_diag (c : PerCmd) (s : State) : (perAsk c s).diag = s.diag := rfl
@[simp] theorem perAsk_rx (c : PerCmd) (s : State) : (perAsk c s).rx = s.rx := rfl
@[simp] theorem perAsk_arrivals (c : PerCmd) (s : State) : (perAsk c s).arrivals = s.arrivals := rfl
@[simp] theorem perAsk_arrivalDraws (c : PerCmd) (s : State) : (perAsk c s).arrivalDraws = s.arrivalDraws := rfl
@[simp] theorem perAsk_times (c : PerCmd) (s : State) : (perAsk c s).times = s.times := rfl
@[simp] theorem perAsk_timeDraws (c : PerCmd) (s : State) : (perAsk c s).timeDraws = s.timeDraws := rfl
@[simp] theorem perAsk_answers (c : PerCmd) (s : State) : (perAsk c s).answers = s.answers.tail := rfl
@[simp] theorem perAsk_answerDraws (c : PerCmd) (s : State) : (perAsk c s).answerDraws = if s.answers.isEmpty then s.answerDraws + 1 else s.answerDraws := rfl
@[simp] theorem perAsk_resetIn (c : PerCmd) (s : State) : (perAsk c s).resetIn = s.resetIn := rfl
@[simp] theorem perAsk_resetDraws (c : PerCmd) (s : State) : (perAsk c s).resetDraws = s.resetDraws := rfl
@[simp] theorem perAsk_params (c : PerCmd) (s : State) : (perAsk c s).params = s.params := rfl
@[simp] theorem nowValue_perAsk (c : PerCmd) (s : State) : nowValue (perAsk c s) = nowValue s := rfl
@[simp] theorem arriving_perAsk (c : PerCmd) (s : State) : arriving (perAsk c s) = arriving s := rfl
@[simp] theorem resetNow_perAsk (c : PerCmd) (s : State) : resetNow (perAsk c s) = resetNow s := rfl

@[simp] theorem raiseHalt_current (c : HaltCause) (s : State) : (raiseHalt c s).current = s.current := rfl
@[simp] theorem raiseHalt_lastAppliedAt (c : HaltCause) (s : State) : (raiseHalt c s).lastAppliedAt = s.lastAppliedAt := rfl
@[simp] theorem raiseHalt_phase (c : HaltCause) (s : State) : (raiseHalt c s).phase = .halted := rfl
@[simp] theorem raiseHalt_seq (c : HaltCause) (s : State) : (raiseHalt c s).seq = s.seq := rfl
@[simp] theorem raiseHalt_irqMask (c : HaltCause) (s : State) : (raiseHalt c s).irqMask = s.irqMask := rfl
@[simp] theorem raiseHalt_per (c : HaltCause) (s : State) : (raiseHalt c s).per = s.per := rfl
@[simp] theorem raiseHalt_diag (c : HaltCause) (s : State) : (raiseHalt c s).diag = s.diag := rfl
@[simp] theorem raiseHalt_rx (c : HaltCause) (s : State) : (raiseHalt c s).rx = s.rx := rfl
@[simp] theorem raiseHalt_arrivals (c : HaltCause) (s : State) : (raiseHalt c s).arrivals = s.arrivals := rfl
@[simp] theorem raiseHalt_arrivalDraws (c : HaltCause) (s : State) : (raiseHalt c s).arrivalDraws = s.arrivalDraws := rfl
@[simp] theorem raiseHalt_times (c : HaltCause) (s : State) : (raiseHalt c s).times = s.times := rfl
@[simp] theorem raiseHalt_timeDraws (c : HaltCause) (s : State) : (raiseHalt c s).timeDraws = s.timeDraws := rfl
@[simp] theorem raiseHalt_answers (c : HaltCause) (s : State) : (raiseHalt c s).answers = s.answers := rfl
@[simp] theorem raiseHalt_answerDraws (c : HaltCause) (s : State) : (raiseHalt c s).answerDraws = s.answerDraws := rfl
@[simp] theorem raiseHalt_resetIn (c : HaltCause) (s : State) : (raiseHalt c s).resetIn = s.resetIn := rfl
@[simp] theorem raiseHalt_resetDraws (c : HaltCause) (s : State) : (raiseHalt c s).resetDraws = s.resetDraws := rfl
@[simp] theorem raiseHalt_params (c : HaltCause) (s : State) : (raiseHalt c s).params = s.params := rfl
@[simp] theorem nowValue_raiseHalt (c : HaltCause) (s : State) : nowValue (raiseHalt c s) = nowValue s := rfl
@[simp] theorem answerValue_raiseHalt (c : HaltCause) (s : State) : answerValue (raiseHalt c s) = answerValue s := rfl
@[simp] theorem arriving_raiseHalt (c : HaltCause) (s : State) : arriving (raiseHalt c s) = arriving s := rfl
@[simp] theorem resetNow_raiseHalt (c : HaltCause) (s : State) : resetNow (raiseHalt c s) = resetNow s := rfl

@[simp] theorem leaveSeq_current (s : State) : (leaveSeq s).current = s.current := rfl
@[simp] theorem leaveSeq_lastAppliedAt (s : State) : (leaveSeq s).lastAppliedAt = s.lastAppliedAt := rfl
@[simp] theorem leaveSeq_phase (s : State) : (leaveSeq s).phase = s.phase := rfl
@[simp] theorem leaveSeq_seq (s : State) : (leaveSeq s).seq = .idle := rfl
@[simp] theorem leaveSeq_irqMask (s : State) : (leaveSeq s).irqMask = false := rfl
@[simp] theorem leaveSeq_per (s : State) : (leaveSeq s).per = s.per := rfl
@[simp] theorem leaveSeq_diag (s : State) : (leaveSeq s).diag = s.diag := rfl
@[simp] theorem leaveSeq_rx (s : State) : (leaveSeq s).rx = s.rx := rfl
@[simp] theorem leaveSeq_arrivals (s : State) : (leaveSeq s).arrivals = s.arrivals := rfl
@[simp] theorem leaveSeq_arrivalDraws (s : State) : (leaveSeq s).arrivalDraws = s.arrivalDraws := rfl
@[simp] theorem leaveSeq_times (s : State) : (leaveSeq s).times = s.times := rfl
@[simp] theorem leaveSeq_timeDraws (s : State) : (leaveSeq s).timeDraws = s.timeDraws := rfl
@[simp] theorem leaveSeq_answers (s : State) : (leaveSeq s).answers = s.answers := rfl
@[simp] theorem leaveSeq_answerDraws (s : State) : (leaveSeq s).answerDraws = s.answerDraws := rfl
@[simp] theorem leaveSeq_resetIn (s : State) : (leaveSeq s).resetIn = s.resetIn := rfl
@[simp] theorem leaveSeq_resetDraws (s : State) : (leaveSeq s).resetDraws = s.resetDraws := rfl
@[simp] theorem leaveSeq_params (s : State) : (leaveSeq s).params = s.params := rfl
@[simp] theorem nowValue_leaveSeq (s : State) : nowValue (leaveSeq s) = nowValue s := rfl
@[simp] theorem answerValue_leaveSeq (s : State) : answerValue (leaveSeq s) = answerValue s := rfl
@[simp] theorem arriving_leaveSeq (s : State) : arriving (leaveSeq s) = arriving s := rfl
@[simp] theorem resetNow_leaveSeq (s : State) : resetNow (leaveSeq s) = resetNow s := rfl

@[simp] theorem lineRead_current (s : State) : (lineRead s).current = s.current := rfl
@[simp] theorem lineRead_lastAppliedAt (s : State) : (lineRead s).lastAppliedAt = s.lastAppliedAt := rfl
@[simp] theorem lineRead_phase (s : State) : (lineRead s).phase = s.phase := rfl
@[simp] theorem lineRead_seq (s : State) : (lineRead s).seq = s.seq := rfl
@[simp] theorem lineRead_irqMask (s : State) : (lineRead s).irqMask = s.irqMask := rfl
@[simp] theorem lineRead_per (s : State) : (lineRead s).per = s.per := rfl
@[simp] theorem lineRead_diag (s : State) : (lineRead s).diag = s.diag := rfl
@[simp] theorem lineRead_rx (s : State) : (lineRead s).rx = s.rx := rfl
@[simp] theorem lineRead_arrivals (s : State) : (lineRead s).arrivals = s.arrivals := rfl
@[simp] theorem lineRead_arrivalDraws (s : State) : (lineRead s).arrivalDraws = s.arrivalDraws := rfl
@[simp] theorem lineRead_times (s : State) : (lineRead s).times = s.times := rfl
@[simp] theorem lineRead_timeDraws (s : State) : (lineRead s).timeDraws = s.timeDraws := rfl
@[simp] theorem lineRead_answers (s : State) : (lineRead s).answers = s.answers := rfl
@[simp] theorem lineRead_answerDraws (s : State) : (lineRead s).answerDraws = s.answerDraws := rfl
@[simp] theorem lineRead_resetIn (s : State) : (lineRead s).resetIn = s.resetIn.tail := rfl
@[simp] theorem lineRead_resetDraws (s : State) : (lineRead s).resetDraws = s.resetDraws := rfl
@[simp] theorem lineRead_params (s : State) : (lineRead s).params = s.params := rfl
@[simp] theorem nowValue_lineRead (s : State) : nowValue (lineRead s) = nowValue s := rfl
@[simp] theorem answerValue_lineRead (s : State) : answerValue (lineRead s) = answerValue s := rfl
@[simp] theorem arriving_lineRead (s : State) : arriving (lineRead s) = arriving s := rfl

@[simp] theorem resetEvent_current (s : State) : (resetEvent s).current = Config.unset := rfl
@[simp] theorem resetEvent_lastAppliedAt (s : State) : (resetEvent s).lastAppliedAt = Config.resetTimestamp s.resetDraws := rfl
@[simp] theorem resetEvent_phase (s : State) : (resetEvent s).phase = .boot := rfl
@[simp] theorem resetEvent_seq (s : State) : (resetEvent s).seq = .idle := rfl
@[simp] theorem resetEvent_irqMask (s : State) : (resetEvent s).irqMask = false := rfl
@[simp] theorem resetEvent_per (s : State) : (resetEvent s).per = [] := rfl
@[simp] theorem resetEvent_diag (s : State) : (resetEvent s).diag = [] := rfl
@[simp] theorem resetEvent_rx (s : State) : (resetEvent s).rx = s.rx := rfl
@[simp] theorem resetEvent_arrivals (s : State) : (resetEvent s).arrivals = s.arrivals := rfl
@[simp] theorem resetEvent_arrivalDraws (s : State) : (resetEvent s).arrivalDraws = s.arrivalDraws := rfl
@[simp] theorem resetEvent_times (s : State) : (resetEvent s).times = s.times := rfl
@[simp] theorem resetEvent_timeDraws (s : State) : (resetEvent s).timeDraws = s.timeDraws := rfl
@[simp] theorem resetEvent_answers (s : State) : (resetEvent s).answers = s.answers := rfl
@[simp] theorem resetEvent_answerDraws (s : State) : (resetEvent s).answerDraws = s.answerDraws := rfl
@[simp] theorem resetEvent_resetIn (s : State) : (resetEvent s).resetIn = s.resetIn := rfl
@[simp] theorem resetEvent_resetDraws (s : State) : (resetEvent s).resetDraws = s.resetDraws + 1 := rfl
@[simp] theorem resetEvent_params (s : State) : (resetEvent s).params = s.params := rfl
@[simp] theorem nowValue_resetEvent (s : State) : nowValue (resetEvent s) = nowValue s := rfl
@[simp] theorem answerValue_resetEvent (s : State) : answerValue (resetEvent s) = answerValue s := rfl
@[simp] theorem arriving_resetEvent (s : State) : arriving (resetEvent s) = arriving s := rfl
@[simp] theorem resetNow_resetEvent (s : State) : resetNow (resetEvent s) = resetNow s := rfl

@[simp] theorem dropFrame_eq (r : DropReason) (s : State) : dropFrame r s = s := rfl

end Sys2Proof.Machine
end

