-- ==== Sys2Proof/Laws/Ops.lean ====
section
/-! SUPPORT. One lemma per shared operation that says what it can do, for later proofs to cite instead of unfolding
it. -/

namespace Sys2Proof.Machine

/-! ### Conditions and operand forms -/

theorem inRange_iff (level : Duty) : inRange level = true ↔ level ≤ 63#16 := by
  have h : Config.maxLevel = 63#16 := by decide
  simp [inRange, h]

theorem inRange_zext16 (l : Level) : inRange (zext16 l) = true := by
  revert l; decide

@[simp] theorem dutyBits_zext16 (l : Level) : dutyBits (zext16 l) = l := by
  revert l; decide

theorem changes_iff (level : Duty) (s : State) : changes level s = true ↔ level ≠ s.current := by
  simp [changes]

/-! ### Enabling -/

theorem enabledIn_of_phase {p : Phase} {s : State} (h : s.phase = p) (o : Outcome) : enabledIn p s o = o := by
  simp [enabledIn, h]

theorem enabledIn_next {p : Phase} {s t : State} {o : Outcome} (h : enabledIn p s o = .next t) :
    s.phase = p ∧ o = .next t := by
  unfold enabledIn at h
  split at h
  · exact ⟨‹_›, h⟩
  · cases h

/-! ### The receive stream -/

theorem rxPop_cases (s : State) :
    (s.rx = [] ∧ rxPop s = (none, s)) ∨
      (∃ b rest, s.rx = b :: rest ∧ rxPop s = (some b, setRx rest s)) := by
  unfold rxPop
  split
  · exact .inl ⟨‹_›, rfl⟩
  · exact .inr ⟨_, _, ‹_›, rfl⟩

/-! ### The sequencer -/

@[simp] theorem enterSeq_current (l : Level) (s : State) (q : Seq) : (enterSeq l s q).current = s.current := by
  cases q <;> rfl

@[simp] theorem enterSeq_lastAppliedAt (l : Level) (s : State) (q : Seq) : (enterSeq l s q).lastAppliedAt = s.lastAppliedAt := by
  cases q <;> rfl

@[simp] theorem enterSeq_phase (l : Level) (s : State) (q : Seq) : (enterSeq l s q).phase = s.phase := by
  cases q <;> rfl

@[simp] theorem enterSeq_diag (l : Level) (s : State) (q : Seq) : (enterSeq l s q).diag = s.diag := by
  cases q <;> rfl

@[simp] theorem enterSeq_rx (l : Level) (s : State) (q : Seq) : (enterSeq l s q).rx = s.rx := by
  cases q <;> rfl

@[simp] theorem enterSeq_arrivals (l : Level) (s : State) (q : Seq) : (enterSeq l s q).arrivals = s.arrivals := by
  cases q <;> rfl

@[simp] theorem enterSeq_arrivalDraws (l : Level) (s : State) (q : Seq) : (enterSeq l s q).arrivalDraws = s.arrivalDraws := by
  cases q <;> rfl

@[simp] theorem enterSeq_times (l : Level) (s : State) (q : Seq) : (enterSeq l s q).times = s.times := by
  cases q <;> rfl

@[simp] theorem enterSeq_timeDraws (l : Level) (s : State) (q : Seq) : (enterSeq l s q).timeDraws = s.timeDraws := by
  cases q <;> rfl

@[simp] theorem enterSeq_resetIn (l : Level) (s : State) (q : Seq) : (enterSeq l s q).resetIn = s.resetIn := by
  cases q <;> rfl

@[simp] theorem enterSeq_resetDraws (l : Level) (s : State) (q : Seq) : (enterSeq l s q).resetDraws = s.resetDraws := by
  cases q <;> rfl

@[simp] theorem enterSeq_params (l : Level) (s : State) (q : Seq) : (enterSeq l s q).params = s.params := by
  cases q <;> rfl

@[simp] theorem enterSeq_answers (l : Level) (s : State) (q : Seq) : (enterSeq l s q).answers = s.answers := by
  cases q <;> rfl

@[simp] theorem enterSeq_answerDraws (l : Level) (s : State) (q : Seq) : (enterSeq l s q).answerDraws = s.answerDraws := by
  cases q <;> rfl

@[simp] theorem enterSeq_seq (l : Level) (s : State) (q : Seq) : (enterSeq l s q).seq = q := by
  cases q <;> rfl

@[simp] theorem enterSeq_irqMask (l : Level) (s : State) (q : Seq) : (enterSeq l s q).irqMask = true := by
  cases q <;> rfl

theorem enterSeq_per (l : Level) (s : State) (q : Seq) :
    (enterSeq l s q).per = s.per ++ ((seqCommand s.params l q).toList.map fun c => ⟨c, none, true⟩) := by
  cases q <;> simp [enterSeq, seqCommand]

/-! `PROGRAM` writes `seq`, `irq_mask`, the trace, and the environment's answers; nothing else. -/

@[simp] theorem program_current (l : Level) (s : State) : (program l s).2.current = s.current := by
  unfold program; cases s.params.variant <;> simp [programA, programB, seqOrder]

@[simp] theorem program_lastAppliedAt (l : Level) (s : State) : (program l s).2.lastAppliedAt = s.lastAppliedAt := by
  unfold program; cases s.params.variant <;> simp [programA, programB, seqOrder]

@[simp] theorem program_phase (l : Level) (s : State) : (program l s).2.phase = s.phase := by
  unfold program; cases s.params.variant <;> simp [programA, programB, seqOrder]

@[simp] theorem program_diag (l : Level) (s : State) : (program l s).2.diag = s.diag := by
  unfold program; cases s.params.variant <;> simp [programA, programB, seqOrder]

@[simp] theorem program_rx (l : Level) (s : State) : (program l s).2.rx = s.rx := by
  unfold program; cases s.params.variant <;> simp [programA, programB, seqOrder]

@[simp] theorem program_arrivals (l : Level) (s : State) : (program l s).2.arrivals = s.arrivals := by
  unfold program; cases s.params.variant <;> simp [programA, programB, seqOrder]

@[simp] theorem program_arrivalDraws (l : Level) (s : State) : (program l s).2.arrivalDraws = s.arrivalDraws := by
  unfold program; cases s.params.variant <;> simp [programA, programB, seqOrder]

@[simp] theorem program_times (l : Level) (s : State) : (program l s).2.times = s.times := by
  unfold program; cases s.params.variant <;> simp [programA, programB, seqOrder]

@[simp] theorem program_timeDraws (l : Level) (s : State) : (program l s).2.timeDraws = s.timeDraws := by
  unfold program; cases s.params.variant <;> simp [programA, programB, seqOrder]

@[simp] theorem program_resetIn (l : Level) (s : State) : (program l s).2.resetIn = s.resetIn := by
  unfold program; cases s.params.variant <;> simp [programA, programB, seqOrder]

@[simp] theorem program_resetDraws (l : Level) (s : State) : (program l s).2.resetDraws = s.resetDraws := by
  unfold program; cases s.params.variant <;> simp [programA, programB, seqOrder]

@[simp] theorem program_params (l : Level) (s : State) : (program l s).2.params = s.params := by
  unfold program; cases s.params.variant <;> simp [programA, programB, seqOrder]

/-- `PROGRAM` only appends to the command trace. -/
theorem program_per (l : Level) (s : State) : ∃ sent, (program l s).2.per = s.per ++ sent := by
  unfold program
  cases s.params.variant
  · exact ⟨_, rfl⟩
  · simp [programB, seqOrder, enterSeq_per]

/-- In variant A `PROGRAM` leaves the sequencer alone (R109). -/
theorem program_variantA {s : State} (h : s.params.variant = .A) (l : Level) : program l s = programA l s := by
  simp [program, h]

/-- In variant B `PROGRAM` always answers ok (R113). -/
theorem program_variantB {s : State} (h : s.params.variant = .B) (l : Level) : program l s = programB l s := by
  simp [program, h]

/-- `CONFIGURE` does one of three things (R108). -/
theorem configure_cases (s : State) :
    (s.params.variant = .B ∧ configure s = (none, s)) ∨
      (s.params.variant = .A ∧ answerValue s = .ok ∧
        configure s = (none, perAsk (.cfg s.params.pwmPin s.params.pwmFreqHz 6) s)) ∨
      (s.params.variant = .A ∧ answerValue s = .fail ∧
        configure s =
          (some .periphInit, raiseHalt .periphInit (perAsk (.cfg s.params.pwmPin s.params.pwmFreqHz 6) s))) := by
  unfold configure
  cases hv : s.params.variant
  · cases ha : answerValue s
    · exact .inr (.inl ⟨rfl, rfl, rfl⟩)
    · exact .inr (.inr ⟨rfl, rfl, rfl⟩)
  · exact .inl ⟨rfl, rfl⟩

/-! ### APPLY -/

/-- What an `APPLY` in range can do: stamp only, program, or halt (R93, R94, R95). -/
theorem applyInRange_cases (level : Duty) (now : Timestamp) (s : State) :
    (level = s.current ∧ applyInRange level now s = (.noChange, stamp now s)) ∨
      (level ≠ s.current ∧
        (program (dutyBits level) (setCurrent level (stamp now s))).1 = .ok ∧
        applyInRange level now s = (.changed, emit (.applied (dutyBits level))
          (program (dutyBits level) (setCurrent level (stamp now s))).2)) ∨
      (level ≠ s.current ∧
        (program (dutyBits level) (setCurrent level (stamp now s))).1 = .fail ∧
        applyInRange level now s = (.halt .periphWrite, raiseHalt .periphWrite
          (program (dutyBits level) (setCurrent level (stamp now s))).2)) := by
  unfold applyInRange
  by_cases h : level = s.current
  · exact .inl ⟨h, by simp [changes, h]⟩
  · rw [if_pos ((changes_iff level s).2 h)]
    obtain ⟨a, t⟩ := program (dutyBits level) (setCurrent level (stamp now s))
    cases a
    · exact .inr (.inl ⟨h, rfl, rfl⟩)
    · exact .inr (.inr ⟨h, rfl, rfl⟩)

theorem apply_of_inRange {level : Duty} {s : State} (hs : s.phase ≠ .halted) (hl : inRange level = true)
    (now : Timestamp) : apply level now s = .ok (applyInRange level now s) := by
  simp [apply, hs, hl]

theorem apply_ok {level : Duty} {now : Timestamp} {s : State} {r : ApplyResult × State}
    (h : apply level now s = .ok r) :
    s.phase ≠ .halted ∧ inRange level = true ∧ r = applyInRange level now s := by
  unfold apply at h
  split at h
  · cases h
  · split at h
    · cases h; exact ⟨‹_›, ‹_›, rfl⟩
    · cases h

theorem applyLast_of_inRange {level : Duty} {s : State} (hs : s.phase ≠ .halted) (hl : inRange level = true)
    (now : Timestamp) : applyLast level now s = .next (applyInRange level now s).2 := by
  simp [applyLast, apply_of_inRange hs hl]

/-! After any `APPLY` in range `current` is the level and the timestamp is the operand (R92, R99); what else it leaves
alone. -/

@[simp] theorem applyInRange_current (level : Duty) (now : Timestamp) (s : State) :
    (applyInRange level now s).2.current = level := by
  rcases applyInRange_cases level now s with ⟨h, e⟩ | ⟨_, _, e⟩ | ⟨_, _, e⟩ <;> rw [e] <;> simp [*]

@[simp] theorem applyInRange_lastAppliedAt (level : Duty) (now : Timestamp) (s : State) :
    (applyInRange level now s).2.lastAppliedAt = now := by
  rcases applyInRange_cases level now s with ⟨h, e⟩ | ⟨_, _, e⟩ | ⟨_, _, e⟩ <;> rw [e] <;> simp

@[simp] theorem applyInRange_rx (level : Duty) (now : Timestamp) (s : State) :
    (applyInRange level now s).2.rx = s.rx := by
  rcases applyInRange_cases level now s with ⟨h, e⟩ | ⟨_, _, e⟩ | ⟨_, _, e⟩ <;> rw [e] <;> simp

@[simp] theorem applyInRange_arrivals (level : Duty) (now : Timestamp) (s : State) :
    (applyInRange level now s).2.arrivals = s.arrivals := by
  rcases applyInRange_cases level now s with ⟨h, e⟩ | ⟨_, _, e⟩ | ⟨_, _, e⟩ <;> rw [e] <;> simp

@[simp] theorem applyInRange_arrivalDraws (level : Duty) (now : Timestamp) (s : State) :
    (applyInRange level now s).2.arrivalDraws = s.arrivalDraws := by
  rcases applyInRange_cases level now s with ⟨h, e⟩ | ⟨_, _, e⟩ | ⟨_, _, e⟩ <;> rw [e] <;> simp

@[simp] theorem applyInRange_times (level : Duty) (now : Timestamp) (s : State) :
    (applyInRange level now s).2.times = s.times := by
  rcases applyInRange_cases level now s with ⟨h, e⟩ | ⟨_, _, e⟩ | ⟨_, _, e⟩ <;> rw [e] <;> simp

@[simp] theorem applyInRange_timeDraws (level : Duty) (now : Timestamp) (s : State) :
    (applyInRange level now s).2.timeDraws = s.timeDraws := by
  rcases applyInRange_cases level now s with ⟨h, e⟩ | ⟨_, _, e⟩ | ⟨_, _, e⟩ <;> rw [e] <;> simp

@[simp] theorem applyInRange_resetIn (level : Duty) (now : Timestamp) (s : State) :
    (applyInRange level now s).2.resetIn = s.resetIn := by
  rcases applyInRange_cases level now s with ⟨h, e⟩ | ⟨_, _, e⟩ | ⟨_, _, e⟩ <;> rw [e] <;> simp

@[simp] theorem applyInRange_resetDraws (level : Duty) (now : Timestamp) (s : State) :
    (applyInRange level now s).2.resetDraws = s.resetDraws := by
  rcases applyInRange_cases level now s with ⟨h, e⟩ | ⟨_, _, e⟩ | ⟨_, _, e⟩ <;> rw [e] <;> simp

@[simp] theorem applyInRange_params (level : Duty) (now : Timestamp) (s : State) :
    (applyInRange level now s).2.params = s.params := by
  rcases applyInRange_cases level now s with ⟨h, e⟩ | ⟨_, _, e⟩ | ⟨_, _, e⟩ <;> rw [e] <;> simp

/-- `APPLY` only appends to the command trace. -/
theorem applyInRange_per (level : Duty) (now : Timestamp) (s : State) :
    ∃ sent, (applyInRange level now s).2.per = s.per ++ sent := by
  have h := program_per (dutyBits level) (setCurrent level (stamp now s))
  rcases applyInRange_cases level now s with ⟨_, e⟩ | ⟨_, _, e⟩ | ⟨_, _, e⟩ <;> rw [e]
  · exact ⟨[], by simp⟩
  · simpa using h
  · simpa using h

/-- The phase after an `APPLY`: unchanged, or `HALTED` when it answers halt. -/
theorem applyInRange_phase (level : Duty) (now : Timestamp) (s : State) :
    (applyInRange level now s).2.phase = s.phase ∨
      ((applyInRange level now s).1 = .halt .periphWrite ∧ (applyInRange level now s).2.phase = .halted) := by
  rcases applyInRange_cases level now s with ⟨_, e⟩ | ⟨_, _, e⟩ | ⟨_, _, e⟩ <;> rw [e]
  · exact .inl rfl
  · exact .inl (by simp)
  · exact .inr ⟨rfl, rfl⟩

/-! ### Frames -/

/-- What a frame in `RUN` does, by class (R127 to R130). -/
theorem exec_run (i : Instr) {s : State} (h : s.phase = .run) :
    exec i s = .next (match i with
      | .ctrl => emit .ctrl (received .ctrl s)
      | .ctrlRsvd x => received (.ctrlRsvd x) s
      | .level l => (applyInRange (zext16 l) (nowValue s) (afterNow (received (.level l) s))).2
      | .levelBadpar p l => received (.levelBadpar p l) s) := by
  cases i with
  | ctrl => exact enabledIn_of_phase h _
  | ctrlRsvd x => exact enabledIn_of_phase h _
  | level l =>
    refine (enabledIn_of_phase h _).trans (applyLast_of_inRange ?_ (inRange_zext16 l) _)
    show s.phase ≠ .halted
    rw [h]; decide
  | levelBadpar p l => exact enabledIn_of_phase h _

/-- A frame that answers a next state was received in `RUN`. -/
theorem exec_next_phase {i : Instr} {s t : State} (h : exec i s = .next t) : s.phase = .run := by
  cases i <;> exact (enabledIn_next h).1

/-! ### The watchdog and the start -/

/-- `WDT_CHECK` in `RUN` (R140). -/
theorem wdtCheck_run {s : State} (h : s.phase = .run) :
    wdtCheck s = .next (if idleExceeded s.params.maxIdleTime (nowValue s) s.lastAppliedAt then
      (applyInRange Config.fallbackLevel (nowValue s) (afterNow s)).2 else afterNow s) := by
  have hr : inRange Config.fallbackLevel = true := by decide
  have hp : (afterNow s).phase ≠ .halted := by simp [h]
  unfold wdtCheck
  rw [enabledIn_of_phase h]
  split
  · exact applyLast_of_inRange hp hr _
  · rfl

theorem checkAndYield_run {s : State} (h : s.phase = .run) : checkAndYield s = wdtCheck s := by
  rw [checkAndYield, wdtCheck_run h]
  simp [yieldTick]

/-- `STARTUP` in `BOOT` (R187): a failed `CFG`, or one `APPLY` of `MAX_LEVEL`. -/
theorem startup_boot {s : State} (h : s.phase = .boot) :
    ((configure s).1 = some .periphInit ∧ startup s = .next (configure s).2) ∨
      ((configure s).1 = none ∧ startup s = .next (enterRun
        (applyInRange Config.maxLevel (nowValue (configure s).2) (afterNow (configure s).2)))) := by
  have hr : inRange Config.maxLevel = true := by decide
  rw [startup, enabledIn_of_phase h]
  rcases configure_cases s with ⟨_, e⟩ | ⟨_, _, e⟩ | ⟨_, _, e⟩ <;> rw [e]
  · exact .inr ⟨rfl, by simp [apply, h, hr]⟩
  · exact .inr ⟨rfl, by simp [apply, h, hr]⟩
  · exact .inl ⟨rfl, rfl⟩

end Sys2Proof.Machine
end

