-- ==== Sys2Proof/Laws/PerInstr.lean ====
section
/-! SUPPORT. The family FormatBit: bit 7 of a frame's byte is 1 exactly for a control-format frame
(30_encoding.md R60, 43_command_decoder.md R126). -/

namespace Sys2Proof.Laws.FormatBit

open Sys2Proof

def Statement (i : Instr) : Prop := (encode i).getLsbD 7 = i.isControl

theorem ctrl : Statement .ctrl := rfl

theorem ctrlRsvd (x : CtrlCode) : Statement (.ctrlRsvd x) := by
  revert x; unfold Statement; decide

theorem level (l : Level) : Statement (.level l) := by
  revert l; unfold Statement; decide

theorem levelBadpar (p : Bit) (l : Level) : Statement (.levelBadpar p l) := by
  revert p l; unfold Statement; decide

end Sys2Proof.Laws.FormatBit
end

