-- ==== Sys2Proof/Laws/Peripheral.lean ====
section
/-! SUPPORT. What a command trace makes of the peripheral (10_state.md R35): how a trace grows, what a whole PROGRAM
does to the output level, and the duty ratio. -/

namespace Sys2Proof.Machine

@[simp] theorem perView_nil : perView [] = unprogrammed := rfl

theorem perView_append (before sent : List Sent) : perView (before ++ sent) = sent.foldl observe (perView before) := by
  simp [perView]

/-- Whatever the trace was, a PROGRAM of variant B leaves the output level at its level (R35, R110, R114). -/
theorem outLevel_program_variantB {s : State} (h : s.params.variant = .B) (l : Level) :
    outLevel (program l s).2.per = some l := by
  rw [program_variantB h]
  simp [programB, seqOrder, leaveSeq, enterSeq_per, seqCommand, outLevel, perView_append, observe]

/-- A configured variant A peripheral drives the level it answered ok to, and keeps the old one when it answered fail
(R35, R109, R114). -/
theorem outLevel_program_variantA {s : State} (h : s.params.variant = .A) (hc : (perView s.per).configured = true)
    (l : Level) :
    outLevel (program l s).2.per = if (program l s).1 = .ok then some l else outLevel s.per := by
  rw [program_variantA h]
  by_cases h : answerValue s = .ok <;> simp [programA, outLevel, perView_append, observe, hc, h]

/-- Level 0 is ratio 0 (R35). -/
@[simp] theorem ratioOf_zero : ratioOf 0#6 = 0 := by simp [ratioOf]

/-- Level 63 is ratio 1 (R35). -/
@[simp] theorem ratioOf_max : ratioOf 63#6 = 1 := by norm_num [ratioOf, Config.maxLevel, Config.resolution]

/-- A level and its ratio determine each other: the ratio times 63 is the level (R114). -/
theorem ratioOf_mul_max (l : Level) : ratioOf l * 63 = l.toNat := by
  simp [ratioOf, Config.maxLevel, Config.resolution]

theorem dutyRatio_of_outLevel {trace : List Sent} {l : Level} (h : outLevel trace = some l) :
    dutyRatio trace = some (ratioOf l) := by
  simp [dutyRatio, h]

end Sys2Proof.Machine
end

