-- ==== Sys2Proof/Laws/Step.lean ====
section
/-! SUPPORT. What one step can do: a reset event, a startup, a frame, or a watchdog check. -/

namespace Sys2Proof.Machine

/-- The turn of the loop: a frame when a byte is there, else the watchdog check (R150, R151). -/
theorem loopTurn_cases (s : State) :
    (∃ b rest, (delivered s).rx = b :: rest ∧ loopTurn s = exec (decode b) (setRx rest (delivered s))) ∨
      ((delivered s).rx = [] ∧ loopTurn s = checkAndYield (delivered s)) := by
  unfold loopTurn
  rcases rxPop_cases (delivered s) with ⟨h, e⟩ | ⟨b, rest, h, e⟩ <;> rw [e]
  · exact .inr ⟨h, rfl⟩
  · exact .inl ⟨b, rest, h, rfl⟩

/-- The step, said once: every next state comes from one of these four operations. -/
theorem step_cases {s t : State} (h : step s = .next t) :
    (resetNow s = true ∧ t = resetEvent (lineRead s)) ∨
      (resetNow s = false ∧ s.phase = .boot ∧ startup (lineRead s) = .next t) ∨
      (resetNow s = false ∧ s.phase = .run ∧
        ∃ b rest, s.rx ++ arriving s = b :: rest ∧
          exec (decode b) (setRx rest (delivered (lineRead s))) = .next t) ∨
      (resetNow s = false ∧ s.phase = .run ∧ s.rx ++ arriving s = [] ∧
        wdtCheck (delivered (lineRead s)) = .next t) := by
  unfold step turn at h
  split at h
  · cases h; exact .inl ⟨‹_›, rfl⟩
  · rename_i hn
    have hr : resetNow s = false := by simpa using hn
    split at h
    · exact .inr (.inl ⟨hr, ‹_›, h⟩)
    · rename_i hp
      rcases loopTurn_cases (lineRead s) with ⟨b, rest, hb, e⟩ | ⟨hb, e⟩
      · exact .inr (.inr (.inl ⟨hr, hp, b, rest, hb, e ▸ h⟩))
      · refine .inr (.inr (.inr ⟨hr, hp, hb, ?_⟩))
        rw [← checkAndYield_run (s := delivered (lineRead s)) hp, ← e]; exact h
    · cases h

/-! Runs of the machine, one step at a time. -/

theorem run_zero (s : State) : Host.Core.run core 0 s = .next s := rfl

/-- `Core.run` of any machine, one step off the front. -/
theorem host_run_succ (M : Host.Core) (k : Nat) (s : M.State) :
    M.run (k + 1) s =
      match M.step s with
      | .next t => M.run k t
      | .fault f => .fault f
      | .refused r => .refused r := by
  cases h : M.step s <;> simp [Host.Core.run, h]

theorem run_succ (k : Nat) (s : State) :
    Host.Core.run core (k + 1) s =
      match step s with
      | .next t => Host.Core.run core k t
      | .fault f => .fault f
      | .refused r => .refused r := by
  refine (host_run_succ core k s).trans ?_
  cases h : step s <;> (have e : core.step s = _ := h; rw [e])

end Sys2Proof.Machine
end

