-- ==== Sys2Proof/Tests/Slice0.lean ====
section
/-! SUPPORT. Tests of the model: words written out from 30_encoding.md, rows of 95_test_vectors.md (each test names
its row), and the witness of every statement that has hypotheses (witness_<name of the statement>). -/

namespace Sys2Proof.Tests

open Sys2Proof Sys2Proof.Machine Sys2Proof.Safety

/-- The next state of an outcome, if it is one. -/
def after : Outcome → Option State
  | .next t => some t
  | .fault _ => none
  | .refused _ => none

/-- `(current, lastAppliedAt, phase)`, as 95_test_vectors.md writes a state. -/
def view (o : Outcome) : Option (Duty × Timestamp × Phase) :=
  (after o).map fun t => (t.current, t.lastAppliedAt, t.phase)

/-- The commands sent, and what was reported. -/
def traces (o : Outcome) : Option (List PerCmd × List DiagEvent) :=
  (after o).map fun t => (t.per.map Sent.cmd, t.diag)

/-- Parameters of the vectors: `MAX_IDLE_TIME = 10000`, the other numbers chosen for the tests. -/
def exampleParams (v : Variant) : Params := ⟨10000#32, 10, 25000, 9, v, 2, 63⟩

/-- A configured device in `RUN`, at duty `current` since `last`. -/
def run (v : Variant) (current : Duty) (last now : Timestamp) : State where
  current := current
  lastAppliedAt := last
  phase := .run
  seq := .idle
  irqMask := false
  per := [⟨.cfg 9 25000 6, some .ok, false⟩]
  diag := []
  rx := []
  arrivals := [[], []]
  arrivalDraws := 0
  times := [now, now, now]
  timeDraws := 0
  answers := [.ok, .ok]
  answerDraws := 0
  resetIn := []
  resetDraws := 1
  params := exampleParams v

/-- The device before `STARTUP`. -/
def boot (v : Variant) (now : Timestamp) : State :=
  { run v 0xFFFF#16 0#32 now with phase := .boot, per := [] }

/-- The run state of V4: `(63, 100, RUN)`, `Now()` returns 2000. -/
def v4 : State := run .A 63#16 100#32 2000#32

/-! Ill-formed terms. -/

theorem test_wf_ctrlRsvd_zero : (Instr.ctrlRsvd 0#7).wf = false := by decide

theorem test_wf_levelBadpar_right_parity : (Instr.levelBadpar 0#1 5#6).wf = false := by decide

theorem test_params_tick_zero : { exampleParams .A with tickInterval := 0 }.legal = false := by decide

theorem test_params_freq_zero : { exampleParams .A with pwmFreqHz := 0 }.legal = false := by decide

theorem test_params_legal : (exampleParams .A).legal = true := by decide

/-! Words from the encodings of R62 to R65, bit by bit. -/

theorem test_decode_ctrl : decode 0b10000000#8 = .ctrl := by decide

theorem test_decode_ctrlRsvd : decode 0b11000101#8 = .ctrlRsvd 0b1000101#7 := by decide

/-- 47 = 101111 has five ones, so its parity bit is 1 (V2). -/
theorem test_decode_level : decode 0b01101111#8 = .level 0b101111#6 := by decide

/-- 5 = 000101 has two ones, so a parity bit of 1 is wrong (S7 as corrected). -/
theorem test_decode_levelBadpar : decode 0b01000101#8 = .levelBadpar 1#1 0b000101#6 := by decide

theorem test_decode_nothing : decodeFrame [] = .error .noByte := rfl

/-- The last row of V2. -/
theorem test_encode_row :
    ([56, 57, 58, 59, 60, 61, 62, 63].map fun n => encode (.level (BitVec.ofNat 6 n))) =
      [0x78#8, 0x39#8, 0x3A#8, 0x7B#8, 0x3C#8, 0x7D#8, 0x7E#8, 0x3F#8] := by decide

/-- V1, rows with a note. -/
theorem test_par_rows :
    [0x00, 0x05, 0x20, 0x2F, 0x3F, 0x40, 0x7F, 0x80, 0x85, 0xFF].map (fun n => (par (BitVec.ofNat 8 n)).toNat) =
      [0, 0, 1, 1, 0, 1, 1, 0, 0, 1] := by decide

/-! V4, one row per class. -/

theorem test_ctrl : traces (exec .ctrl v4) = some ([.cfg 9 25000 6], [.rx 0x80#8, .ctrl]) := by decide

theorem test_ctrlRsvd : traces (exec (.ctrlRsvd 0x45#7) v4) = some ([.cfg 9 25000 6], [.rx 0xC5#8]) := by decide

theorem test_level : view (exec (.level 5#6) v4) = some (5#16, 2000#32, .run) := by decide

theorem test_level_traces :
    traces (exec (.level 5#6) v4) = some ([.cfg 9 25000 6, .wr 9 5#6], [.rx 0x05#8, .applied 5#6]) := by decide

theorem test_levelBadpar : view (exec (.levelBadpar 1#1 5#6) v4) = some (63#16, 100#32, .run) := by decide

/-! V5 to V9, one row each where a slip would show. -/

/-- V5 row 1: level 0 on a fresh register is applied. -/
theorem test_apply_fresh_zero :
    view (applyLast 0#16 7#32 (boot .A 7#32)) = some (0#16, 7#32, .boot) := by decide

/-- V5 row 7: 64 is out of range. -/
theorem test_apply_range : view (applyLast 64#16 2000#32 v4) = none := by decide

/-- V5 row 9: a failed write. -/
theorem test_apply_write_fails :
    view (applyLast 6#16 3000#32 { v4 with answers := [.fail] }) = some (6#16, 3000#32, .halted) := by decide

/-- V6 row 7. -/
theorem test_program_variantB :
    (program 5#6 (run .B 63#16 0#32 0#32)).2.per.drop 1 =
      [⟨.tDisable, none, true⟩, ⟨.tWgm 2, none, true⟩, ⟨.tTop 63, none, true⟩, ⟨.tDuty 5#6, none, true⟩,
        ⟨.tPindir 9, none, true⟩, ⟨.tEnable, none, true⟩] := by decide

/-- V7 row 3: not strictly greater. -/
theorem test_wdt_at_deadline :
    view (wdtCheck (run .A 63#16 500#32 10500#32)) = some (63#16, 500#32, .run) := by decide

/-- V7 row 4. -/
theorem test_wdt_past_deadline :
    view (wdtCheck (run .A 63#16 500#32 10501#32)) = some (47#16, 10501#32, .run) := by decide

/-- V7 row 7: a wrap of the clock, 512 ms. -/
theorem test_wdt_wrap_quiet :
    view (wdtCheck (run .A 63#16 0xFFFFFF00#32 0x100#32)) = some (63#16, 0xFFFFFF00#32, .run) := by decide

/-- V7 row 8: a wrap of the clock, 10001 ms. -/
theorem test_wdt_wrap_fires :
    view (wdtCheck (run .A 63#16 0xFFFFFF00#32 9745#32)) = some (47#16, 9745#32, .run) := by decide

/-- V8 row 6: a halt inside the drain leaves the later byte and skips the check. -/
theorem test_loop_halt_keeps_byte :
    (((loopIter 2 { run .A 63#16 0#32 10#32 with rx := [0x05#8, 0x06#8], answers := [.fail] }).bind after).map
      fun t => (t.rx, t.phase)) = some ([0x06#8], .halted) := by decide

/-- V9 row 1. -/
theorem test_startup : view (startup (boot .A 100#32)) = some (63#16, 100#32, .run) := by decide

/-- V9 row 2: CFG fails; the time is not sampled. -/
theorem test_startup_cfg_fails :
    (after (startup { boot .A 100#32 with answers := [.fail] })).map (fun t => (t.current, t.phase, t.times.length)) =
      some (0xFFFF#16, .halted, 3) := by decide

/-- V9 row 4. -/
theorem test_startup_variantB :
    (after (startup (boot .B 7#32))).map (fun t => (t.lastAppliedAt, t.irqMask, outLevel t.per)) =
      some (7#32, false, some 63#6) := by decide

/-! The abstract peripheral of R35. -/

/-- Commands of variant B as the trace lists them. -/
def sentB (commands : List PerCmd) : List Sent := commands.map fun c => ⟨c, none, true⟩

/-- A completed sequence, then a second `T_DUTY` after the mode of the next one: the last completed level stays (R35). -/
theorem test_outLevel_second_duty :
    outLevel (sentB [.tDisable, .tWgm 2, .tTop 63, .tDuty 5#6, .tPindir 9, .tEnable,
      .tDisable, .tWgm 2, .tTop 63, .tDuty 6#6, .tDuty 7#6, .tPindir 9, .tEnable]) = some 5#6 := by decide

/-- A `T_DUTY` before the `T_WGM` of its sequence: undefined (R35). -/
theorem test_outLevel_duty_before_mode :
    outLevel (sentB [.tDisable, .tWgm 2, .tTop 63, .tDuty 5#6, .tPindir 9, .tEnable,
      .tDisable, .tDuty 6#6, .tWgm 2]) = none := by decide

/-- Level 63 is ratio 1, and there is no ratio before the first programming (R35). -/
theorem test_ratio : dutyRatio (sentB [.tDisable, .tWgm 2, .tTop 63, .tDuty 63#6, .tPindir 9, .tEnable]) = some 1 ∧
    dutyRatio [] = none :=
  ⟨by rw [dutyRatio_of_outLevel (l := 63#6) (by decide), ratioOf_max], rfl⟩

/-! The first step after reset runs the frame placed where it fetches. -/

theorem test_first_ctrl : (after (step (State.reset.withFetchWord 8 0x80))).map State.diag = some [.rx 0x80#8, .ctrl] := rfl

theorem test_first_level : (after (step (State.reset.withFetchWord 8 0x05))).isSome = true := rfl

/-! Witnesses, in the order of the statements. -/

theorem witness_DecodeOfEncode :
    (Instr.ctrl).wf = true ∧ (Instr.ctrlRsvd 1#7).wf = true ∧ (Instr.ctrlRsvd 127#7).wf = true ∧
      (Instr.level 63#6).wf = true ∧ (Instr.levelBadpar 0#1 1#6).wf = true := by decide

theorem witness_EncodeOfDecode : (Instr.level 63#6).wf = true ∧ encode (.level 63#6) = 0x3F#8 := by decide

theorem witness_LevelEncodingRoundTrip : (0x7F#8).getLsbD 7 = false ∧ (0x00#8).getLsbD 7 = false := by decide

theorem witness_FlipsOfAcceptedBytes :
    ((0x00#8).getLsbD 7 = false ∧ chk 0x00#8 = true) ∧ ((0x7E#8).getLsbD 7 = false ∧ chk 0x7E#8 = true) ∧
      (0 : Fin 7) ≠ 6 := by decide

theorem witness_AssemblerLines : (1#1 ≠ par ((63#6).zeroExtend 8)) ∧ (127#7 ≠ 0#7) := by decide

theorem witness_CtrlOnlyReports : v4.phase = .run := rfl

theorem witness_ReservedControlDropped : v4.phase = .run := rfl

theorem witness_BadParityDropped : v4.phase = .run := rfl

theorem witness_LevelForwardsToApply : v4.phase = .run := rfl

theorem witness_LevelOfCurrentOnlyStamps : v4.phase = .run ∧ v4.current = (63#6).zeroExtend 16 := by decide

theorem witness_LevelAppliedVariantA :
    v4.phase = .run ∧ v4.current ≠ (0#6).zeroExtend 16 ∧ v4.params.variant = .A ∧ answerValue v4 = .ok := by decide

theorem witness_LevelWriteFailureHalts :
    let s := { v4 with answers := [.fail] }
    s.phase = .run ∧ s.current ≠ (0#6).zeroExtend 16 ∧ s.params.variant = .A ∧ answerValue s = .fail := by decide

theorem witness_LevelAppliedVariantB :
    let s := run .B 63#16 100#32 2000#32
    s.phase = .run ∧ s.current ≠ (0#6).zeroExtend 16 ∧ s.params.variant = .B := by decide

theorem witness_FramesOnlyInRun : { v4 with phase := .halted }.phase = .halted ∧ (boot .A 0#32).phase = .boot := by decide

theorem witness_NonLevelFramesKeepAll :
    (∀ l, Instr.ctrl ≠ .level l) ∧ (∀ l, Instr.ctrlRsvd 127#7 ≠ .level l) ∧ (∀ l, Instr.levelBadpar 1#1 0#6 ≠ .level l) ∧
      (∃ t, exec .ctrl v4 = .next t) ∧ (∃ t, exec (.ctrlRsvd 127#7) v4 = .next t) ∧
      ∃ t, exec (.levelBadpar 1#1 0#6) v4 = .next t :=
  ⟨by simp, by simp, by simp, ⟨_, rfl⟩, ⟨_, rfl⟩, _, rfl⟩

theorem witness_LevelFrameKeeps_variantA :
    (∃ t, exec (.level 0#6) v4 = .next t) ∧ v4.params.variant = .A := ⟨⟨_, rfl⟩, rfl⟩

theorem witness_LevelFrameKeeps_variantB :
    (∃ t, exec (.level 0#6) (run .B 63#16 100#32 2000#32) = .next t) ∧
      (run .B 63#16 100#32 2000#32).params.variant = .B := ⟨⟨_, rfl⟩, rfl⟩

theorem witness_LevelFrameKeeps_equal :
    (∃ t, exec (.level 63#6) v4 = .next t) ∧ v4.current = (63#6).zeroExtend 16 := ⟨⟨_, rfl⟩, rfl⟩

theorem witness_ReceiptLineFirst :
    (∃ t, exec .ctrl v4 = .next t) ∧ ∃ t, exec (.level 5#6) v4 = .next t := ⟨⟨_, rfl⟩, _, rfl⟩

theorem witness_DecodeSucceedsByParity :
    v4.phase = .run ∧ ((0x3F#8).getLsbD 7 = false ∧ 0x3F#8 &&& 0x40#8 = parMask (0x3F#8 &&& 0x3F#8)) ∧
      ((0x7F#8).getLsbD 7 = false ∧ 0x7F#8 &&& 0x40#8 ≠ parMask (0x7F#8 &&& 0x3F#8)) := by decide

theorem witness_ApplyOutOfRangeFaults : v4.phase ≠ .halted ∧ 63#16 < 64#16 ∧ 63#16 < 0xFFFF#16 := by decide

theorem witness_ApplyAlwaysStamps :
    (v4.phase ≠ .halted ∧ 63#16 ≤ 63#16) ∧ (∀ l, Instr.ctrl ≠ .level l) ∧ ∃ t, exec .ctrl v4 = .next t :=
  ⟨by decide, by simp, _, rfl⟩

theorem witness_EqualLevelTouchesNothing : v4.phase ≠ .halted ∧ v4.current ≤ 63#16 := by decide

theorem witness_ApplyUpdatesInOrder_ok :
    v4.phase ≠ .halted ∧ 0#16 ≤ 63#16 ∧ 0#16 ≠ v4.current ∧
      (program 0#6 { v4 with lastAppliedAt := 7#32, current := 0#16 }).1 = .ok := by decide

theorem witness_ApplyUpdatesInOrder_fail :
    let s := { v4 with answers := [.fail] }
    s.phase ≠ .halted ∧ 0#16 ≤ 63#16 ∧ 0#16 ≠ s.current ∧
      (program 0#6 { s with lastAppliedAt := 7#32, current := 0#16 }).1 = .fail := by decide

theorem witness_ApplyIsIdempotent :
    v4.phase = .run ∧ 63#16 ≤ 63#16 ∧ ∃ r u, apply 0#16 7#32 v4 = .ok (r, u) ∧ u.phase = .run :=
  ⟨rfl, by decide, _, _, rfl, rfl⟩

theorem witness_FirstApplyNeverSkipped :
    (boot .A 7#32).phase ≠ .halted ∧ (boot .A 7#32).current = 0xFFFF#16 ∧ 0#16 ≤ 63#16 ∧ 63#16 ≤ 63#16 := by decide

theorem witness_ConfigureOnce_calls :
    ((boot .A 7#32).params.variant = .A ∧ answerValue (boot .A 7#32) = .ok) ∧
      answerValue { boot .A 7#32 with answers := [.fail] } = .fail ∧ (boot .B 7#32).params.variant = .B := by decide

theorem witness_ConfigureOnce_boot :
    (boot .A 7#32).phase = .boot ∧ resetNow (boot .A 7#32) = false ∧ ∃ t, step (boot .A 7#32) = .next t :=
  ⟨rfl, rfl, _, rfl⟩

theorem witness_ConfigureOnce_run : v4.phase = .run ∧ resetNow v4 = false ∧ ∃ t, step v4 = .next t := ⟨rfl, rfl, _, rfl⟩

theorem witness_ProgramVariantAWrites : v4.params.variant = .A := rfl

theorem witness_ProgramVariantBSequence : (run .B 63#16 0#32 0#32).params.variant = .B := rfl

theorem witness_SequencerRefinesProgram :
    let s := run .B 63#16 0#32 0#32
    s.params.variant = .B ∧ s.seq = .idle ∧ s.irqMask = false := by decide

theorem witness_VariantsAgree :
    (run .A 63#16 0#32 1#32).params.variant = .A ∧ (run .B 63#16 0#32 1#32).params.variant = .B ∧
      SameButVariant (run .A 63#16 0#32 1#32) (run .B 63#16 0#32 1#32) ∧
      2 * 1 ≤ (run .A 63#16 0#32 1#32).answers.length ∧ ∀ x ∈ (run .A 63#16 0#32 1#32).answers, x = .ok :=
  ⟨rfl, rfl, rfl, by decide, by decide⟩

theorem witness_ModeBeforeDutyKept : ModeFirst v4 ∧ ∃ t, step v4 = .next t := by
  refine ⟨⟨?_, fun _ _ => ⟨⟨.cfg 9 25000 6, some .ok, false⟩, by decide, ⟨9, 25000, 6, rfl⟩, rfl⟩⟩, _, rfl⟩
  intro before c later h
  cases before with
  | nil => cases h; simp
  | cons d rest => simp [v4, run] at h

theorem witness_WatchdogQuietUpToDeadline :
    let s := run .A 63#16 500#32 10500#32
    s.phase = .run ∧ nowValue s - s.lastAppliedAt ≤ s.params.maxIdleTime := by decide

theorem witness_WatchdogAppliesFallback :
    let s := run .A 63#16 500#32 10501#32
    let q := run .A 63#16 500#32 10500#32
    (s.phase = .run ∧ s.params.maxIdleTime < nowValue s - s.lastAppliedAt) ∧
      (q.phase = .run ∧ ¬ q.params.maxIdleTime < nowValue q - q.lastAppliedAt) := by decide

theorem witness_RepeatedFallbackIsSilent :
    let s := run .A 47#16 10501#32 20502#32
    s.phase = .run ∧ s.current = 47#16 ∧ s.params.maxIdleTime < nowValue s - s.lastAppliedAt := by decide

theorem witness_ElapsedIsTrueTime :
    (0xFFFFFF00 ≤ 0x100002611 ∧ 0x100002611 - 0xFFFFFF00 < 2 ^ 32) ∧ (0 ≤ 2 ^ 32 - 1 ∧ 2 ^ 32 - 1 - 0 < 2 ^ 32) ∧
      4999#32 < 5000#32 := by decide

theorem witness_DeadlineExtremes_max :
    let s := { run .A 63#16 500#32 499#32 with params := { exampleParams .A with maxIdleTime := 0xFFFFFFFF#32 } }
    s.phase = .run ∧ s.params.maxIdleTime = 0xFFFFFFFF#32 := by decide

theorem witness_DeadlineExtremes_zero :
    let zero := { exampleParams .A with maxIdleTime := 0#32 }
    let s := { run .A 63#16 500#32 501#32 with params := zero }
    let q := { run .A 63#16 500#32 500#32 with params := zero }
    (s.phase = .run ∧ s.params.maxIdleTime = 0#32 ∧ nowValue s ≠ s.lastAppliedAt) ∧
      (q.phase = .run ∧ q.params.maxIdleTime = 0#32 ∧ nowValue q = q.lastAppliedAt) := by decide

theorem witness_SilentStartFallsBack :
    let s := { boot .A 500#32 with times := [500#32, 10501#32], answers := [.ok, .ok, .ok] }
    s.phase = .boot ∧ s.current = 0xFFFF#16 ∧ resetNow s = false ∧
      ∃ t u, step s = .next t ∧ t.phase = .run ∧ resetNow t = false ∧ t.rx ++ arriving t = [] ∧
        t.params.maxIdleTime < nowValue t - nowValue (configure s).2 ∧ step t = .next u ∧ u.phase = .run :=
  ⟨rfl, rfl, rfl, _, _, rfl, rfl, rfl, rfl, by decide, rfl, rfl⟩

theorem witness_RxPopIsFifo : v4.rx = [] ∧ { v4 with rx := [0x05#8] }.rx = 0x05#8 :: [] := ⟨rfl, rfl⟩

theorem witness_StepRunsDecodedFrame :
    let s := { v4 with rx := [0x05#8], arrivals := [[0x80#8]] }
    s.phase = .run ∧ resetNow s = false ∧ s.rx ++ arriving s = 0x05#8 :: [0x80#8] := by decide

theorem witness_StepChecksWatchdogWhenDrained :
    v4.phase = .run ∧ resetNow v4 = false ∧ v4.rx ++ arriving v4 = [] := by decide

theorem witness_StartupOutcomes :
    let s := boot .A 100#32
    let cfgFails := { s with answers := [.fail] }
    let writeFails := { s with answers := [.ok, .fail] }
    (s.phase = .boot ∧ s.current = 0xFFFF#16 ∧ resetNow s = false) ∧
      (s.params.variant = .A ∧ answerValue s = .ok ∧ answerValue (perAsk (.cfg 9 25000 6) (lineRead s)) = .ok) ∧
      answerValue cfgFails = .fail ∧
      (answerValue writeFails = .ok ∧ answerValue (perAsk (.cfg 9 25000 6) (lineRead writeFails)) = .fail) ∧
      (boot .B 7#32).params.variant = .B := by decide

theorem witness_HaltedStopsUntilReset :
    let s := { v4 with phase := .halted }
    (s.phase = .halted ∧ resetNow s = false) ∧ resetNow { s with resetIn := [true] } = true := by decide

theorem witness_ResetEventReinitialises : resetNow { v4 with resetIn := [true] } = true := rfl

theorem witness_PhaseMoves :
    (∃ t, step v4 = .next t) ∧ (∃ t, step (boot .A 1#32) = .next t) ∧
      ∃ t, step { v4 with resetIn := [true] } = .next t := ⟨⟨_, rfl⟩, ⟨_, rfl⟩, _, rfl⟩

theorem witness_OnlyApplyWritesTheRegisters : ∃ t, step { v4 with rx := [0x05#8] } = .next t := ⟨_, rfl⟩

theorem witness_DutyRangeKept : DutyInRange v4 ∧ ∃ t, step v4 = .next t := ⟨by unfold DutyInRange; decide, _, rfl⟩

theorem witness_SequencerIdleKept : SequencerIdle v4 ∧ ∃ t, step v4 = .next t := ⟨⟨rfl, rfl⟩, _, rfl⟩

theorem witness_OutputFollowsDutyKept :
    let s := { v4 with per := v4.per ++ [⟨.wr 9 63#6, some .ok, false⟩] }
    DutyInRange s ∧ OutputFollowsDuty s ∧ ∃ t, step s = .next t :=
  ⟨by unfold DutyInRange; decide, by unfold OutputFollowsDuty; decide, _, rfl⟩

theorem witness_FirstDutyFullKept :
    let s := { v4 with per := v4.per ++ [⟨.wr 9 63#6, some .ok, false⟩] }
    DutyInRange s ∧ FirstDutyFull s ∧ ∃ t, step s = .next t :=
  ⟨by unfold DutyInRange; decide, by unfold FirstDutyFull; decide, _, rfl⟩

theorem witness_ParametersConstant : ∃ t, step v4 = .next t := ⟨_, rfl⟩

theorem witness_VariantBNeverHalts :
    (boot .B 7#32).params.variant = .B ∧ (boot .B 7#32).phase ≠ .halted := by decide

theorem witness_LoopIterationIsSteps :
    v4.phase = .run ∧ v4.resetIn = [] ∧ ∃ o, loopIter 1 v4 = some o := ⟨rfl, rfl, _, rfl⟩

theorem witness_BufferedFrameBeatsDeadline :
    let s := { run .A 63#16 0#32 10001#32 with rx := [enc 63#6] }
    s.phase = .run ∧ s.rx = [enc 63#6] ∧ s.arrivals = [] :: [] :: [] ∧
      s.times = 10001#32 :: 10001#32 :: [10001#32] ∧ 10001#32 - 10001#32 ≤ s.params.maxIdleTime := by decide

theorem witness_InputsInOrder :
    v4.times = 2000#32 :: [2000#32, 2000#32] ∧ { v4 with times := [] }.times = [] ∧ v4.answers = .ok :: [.ok] ∧
      { v4 with answers := [] }.answers = [] ∧ v4.arrivals = [] :: [[]] ∧
      { v4 with arrivals := [[0x05#8, 0x80#8]] }.arrivals = [0x05#8, 0x80#8] :: [] ∧
      { v4 with arrivals := [] }.arrivals = [] := ⟨rfl, rfl, rfl, rfl, rfl, rfl, rfl⟩

end Sys2Proof.Tests
end

section
/-! SUPPORT. The decoder and the encoder as inverses of each other on well-formed frames (30_encoding.md R60 to R67), and
the counting of the bytes of a class. -/

namespace Sys2Proof.Machine

/-! The slices of R61 read back from the two formats of R60. -/

@[simp] theorem requestBit_append (r : Bit) (x : CtrlCode) : requestBit (r ++ x) = r :=
  BitVec.extractLsb'_append_eq_left

@[simp] theorem ctrlCode_append (r : Bit) (x : CtrlCode) : ctrlCode (r ++ x) = x :=
  BitVec.extractLsb'_append_eq_right

@[simp] theorem requestBit_append_append (r p : Bit) (l : Level) : requestBit (r ++ p ++ l) = r := by
  rw [requestBit, BitVec.extractLsb'_append_eq_of_le (by decide)]
  exact BitVec.extractLsb'_append_eq_left

@[simp] theorem parityFlag_append_append (r p : Bit) (l : Level) : parityFlag (r ++ p ++ l) = p := by
  rw [parityFlag, BitVec.extractLsb'_append_eq_of_le (by decide)]
  exact BitVec.extractLsb'_append_eq_right

@[simp] theorem levelField_append_append (r p : Bit) (l : Level) : levelField (r ++ p ++ l) = l :=
  BitVec.extractLsb'_append_eq_right

/-- Format C of R60: a byte is its request bit and its control code. -/
theorem requestBit_append_ctrlCode (b : Byte) : requestBit b ++ ctrlCode b = b :=
  BitVec.extractLsb'_append_extractLsb' (w := 1) (len := 7)

/-- Format L of R60: a byte is its request bit, its parity bit and its level field. -/
theorem requestBit_append_parityFlag_append_levelField (b : Byte) :
    requestBit b ++ parityFlag b ++ levelField b = b := by
  have top : requestBit b ++ parityFlag b = b.extractLsb' 6 2 :=
    BitVec.extractLsb'_append_extractLsb'_eq_extractLsb' rfl
  rw [top]
  exact BitVec.extractLsb'_append_extractLsb' (w := 2) (len := 6)

theorem bit_ne_one {r : Bit} : r ≠ 1#1 ↔ r = 0#1 := by
  revert r; decide

theorem bit_ne_iff_eq_not {p q : Bit} : p ≠ q ↔ p = ~~~q := by
  revert p q; decide

theorem requestBit_eq_one_iff (b : Byte) : requestBit b = 1#1 ↔ b.getLsbD 7 = true := by
  rw [BitVec.getLsbD_eq_extractLsb', beq_iff_eq, requestBit]

theorem requestBit_eq_zero_iff (b : Byte) : requestBit b = 0#1 ↔ b.getLsbD 7 = false := by
  rw [← bit_ne_one, ne_eq, requestBit_eq_one_iff, Bool.not_eq_true]

/-- The level field as a byte is the low six bits left in place (R61, R125). -/
theorem zext8_levelField (b : Byte) : zext8 (levelField b) = b &&& 0x3F#8 := by
  apply BitVec.eq_of_toNat_eq
  have low : (zext8 (levelField b)).toNat = b.toNat % 2 ^ 6 := by
    simp [zext8, levelField]; omega
  rw [low, ← Nat.and_two_pow_sub_one_eq_mod]
  exact (BitVec.toNat_and b 0x3F#8).symm

/-! The decoder. -/

/-- The decoder said once: the four classes in the order of R67, and what each reads. -/
theorem decode_cases (b : Byte) :
    (requestBit b = 1#1 ∧ ctrlCode b = 0#7 ∧ decode b = .ctrl) ∨
      (requestBit b = 1#1 ∧ ctrlCode b ≠ 0#7 ∧ decode b = .ctrlRsvd (ctrlCode b)) ∨
      (requestBit b = 0#1 ∧ parityFlag b = par (zext8 (levelField b)) ∧ decode b = .level (levelField b)) ∨
      (requestBit b = 0#1 ∧ parityFlag b ≠ par (zext8 (levelField b)) ∧
        decode b = .levelBadpar (parityFlag b) (levelField b)) := by
  unfold decode
  split
  next hr => split <;> simp [*]
  next hr => split <;> simp [bit_ne_one.mp hr, *]

/-- A byte decodes to a well-formed frame (R63, R65). -/
theorem wf_decode (b : Byte) : (decode b).wf = true := by
  rcases decode_cases b with ⟨-, h, e⟩ | ⟨-, h, e⟩ | ⟨-, h, e⟩ | ⟨-, h, e⟩ <;> simp [e, Instr.wf, h]

theorem encode_decode (b : Byte) : encode (decode b) = b := by
  rcases decode_cases b with ⟨hr, hx, e⟩ | ⟨hr, -, e⟩ | ⟨hr, hp, e⟩ | ⟨hr, -, e⟩
  · rw [e, encode, ← hr, ← hx, requestBit_append_ctrlCode]
  · rw [e, encode, ← hr, requestBit_append_ctrlCode]
  · rw [e, encode, enc, ← hr, ← hp, requestBit_append_parityFlag_append_levelField]
  · rw [e, encode, ← hr, requestBit_append_parityFlag_append_levelField]

theorem decode_encode {i : Instr} (h : i.wf = true) : decode (encode i) = i := by
  cases i with
  | ctrl => rfl
  | ctrlRsvd x => simp_all [encode, decode, Instr.wf]
  | level l => simp [encode, enc, decode]
  | levelBadpar p l => simp_all [encode, decode, Instr.wf]

theorem decode_eq_iff {b : Byte} {i : Instr} : decode b = i ↔ i.wf = true ∧ encode i = b :=
  ⟨fun h => h ▸ ⟨wf_decode b, encode_decode b⟩, fun ⟨hw, he⟩ => he ▸ decode_encode hw⟩

/-! The bytes of each class. -/

theorem decode_eq_ctrl_iff (b : Byte) : decode b = .ctrl ↔ b = 0x80#8 := by
  rw [decode_eq_iff, eq_comm (a := b)]
  exact and_iff_right rfl

theorem exists_decode_eq_ctrlRsvd_iff (b : Byte) :
    (∃ x, decode b = .ctrlRsvd x) ↔ b.getLsbD 7 = true ∧ ctrlCode b ≠ 0#7 := by
  rw [← requestBit_eq_one_iff]
  rcases decode_cases b with ⟨hr, h, e⟩ | ⟨hr, h, e⟩ | ⟨hr, h, e⟩ | ⟨hr, h, e⟩ <;> simp [e, hr, h]

theorem exists_decode_eq_level_iff (b : Byte) :
    (∃ l, decode b = .level l) ↔ b.getLsbD 7 = false ∧ parityFlag b = par (b &&& 0x3F#8) := by
  rw [← requestBit_eq_zero_iff, ← zext8_levelField]
  rcases decode_cases b with ⟨hr, h, e⟩ | ⟨hr, h, e⟩ | ⟨hr, h, e⟩ | ⟨hr, h, e⟩ <;> simp [e, hr, h]

theorem exists_decode_eq_levelBadpar_iff (b : Byte) :
    (∃ p l, decode b = .levelBadpar p l) ↔ b.getLsbD 7 = false ∧ parityFlag b ≠ par (b &&& 0x3F#8) := by
  rw [← requestBit_eq_zero_iff, ← zext8_levelField]
  rcases decode_cases b with ⟨hr, h, e⟩ | ⟨hr, h, e⟩ | ⟨hr, h, e⟩ | ⟨hr, h, e⟩ <;> simp [e, hr, h]

/-- An accepted level byte is `ENC` of its level (R64, R84). -/
theorem decode_eq_level_iff {b : Byte} {l : Level} : decode b = .level l ↔ enc l = b := by
  rw [decode_eq_iff]
  exact and_iff_right rfl

/-- Every level has exactly one accepted byte (R64). -/
theorem existsUnique_decode_eq_level (l : Level) : ∃! b : Byte, decode b = .level l :=
  ⟨enc l, decode_eq_level_iff.mpr rfl, fun _ h => (decode_eq_level_iff.mp h).symm⟩

/-! Flipping bit 6 of a byte changes its parity bit and nothing else. -/

@[simp] theorem requestBit_flip (b : Byte) : requestBit (b ^^^ 0x40#8) = requestBit b := by
  simp [requestBit, BitVec.extractLsb'_xor]

@[simp] theorem parityFlag_flip (b : Byte) : parityFlag (b ^^^ 0x40#8) = ~~~parityFlag b := by
  rw [parityFlag, BitVec.extractLsb'_xor]
  exact BitVec.xor_allOnes

@[simp] theorem levelField_flip (b : Byte) : levelField (b ^^^ 0x40#8) = levelField b := by
  simp [levelField, BitVec.extractLsb'_xor]

/-- A rejected level byte is an accepted one with bit 6 flipped (R65). -/
theorem exists_decode_eq_levelBadpar_iff_flip (b : Byte) :
    (∃ p l, decode b = .levelBadpar p l) ↔ ∃ l, decode (b ^^^ 0x40#8) = .level l := by
  rw [exists_decode_eq_levelBadpar_iff, exists_decode_eq_level_iff, ← requestBit_eq_zero_iff, ← requestBit_eq_zero_iff,
    ← zext8_levelField, ← zext8_levelField, requestBit_flip, parityFlag_flip, levelField_flip, ne_comm,
    bit_ne_iff_eq_not, eq_comm (b := ~~~parityFlag b)]

end Sys2Proof.Machine
end

section
/-! PROOF. The classes of the 256 bytes and their sizes (30_encoding.md R62 to R65): a class has as many bytes as it has
well-formed frames, since encode and decode are inverse on them. -/

namespace Sys2Proof.Proofs

open Sys2Proof Sys2Proof.Machine

/-- The frame is of the class `CTRL.RSVD` (R63). -/
def isCtrlRsvd : Instr → Bool
  | .ctrlRsvd _ => true
  | _ => false

/-- The frame is of the class `LEVEL` (R64). -/
def isLevel : Instr → Bool
  | .level _ => true
  | _ => false

/-- The frame is of the class `LEVEL.BADPAR` (R65). -/
def isLevelBadpar : Instr → Bool
  | .levelBadpar _ _ => true
  | _ => false

/-- The only well-formed rejected frame of a level: its parity bit is the wrong one (R65). -/
def badparOf (l : Level) : Instr := .levelBadpar (~~~par (zext8 l)) l

/-- The words of `w` bits with a property, counted as the numbers below `2 ^ w`, are as many as the arguments of an
injective function whose values they are. -/
theorem countP_range_ofNat {w : Nat} {α : Type} [Fintype α] {f : α → BitVec w} (inj : Function.Injective f)
    {q : BitVec w → Bool} (hq : ∀ b, q b = true ↔ ∃ a, f a = b) :
    (List.range (2 ^ w)).countP (fun n => q (BitVec.ofNat w n)) = Fintype.card α := by
  have toNat_inj : Function.Injective (fun a => (f a).toNat) := fun a c e => inj (BitVec.eq_of_toNat_eq e)
  have values : (Finset.range (2 ^ w)).filter (fun n => q (BitVec.ofNat w n) = true) =
      Finset.univ.image (fun a => (f a).toNat) := by
    ext n
    simp only [Finset.mem_filter, Finset.mem_range, hq, Finset.mem_image, Finset.mem_univ, true_and]
    constructor
    · rintro ⟨hn, a, ha⟩
      exact ⟨a, by rw [ha, BitVec.toNat_ofNat, Nat.mod_eq_of_lt hn]⟩
    · rintro ⟨a, rfl⟩
      exact ⟨(f a).isLt, a, by simp⟩
  calc (List.range (2 ^ w)).countP (fun n => q (BitVec.ofNat w n))
      = ((Finset.range (2 ^ w)).filter (fun n => q (BitVec.ofNat w n) = true)).card := by
        rw [← List.toFinset_range, List.nodup_range.card_eq_countP]; simp
    _ = Fintype.card α := by rw [values, Finset.card_image_of_injective _ toNat_inj, Finset.card_univ]

/-- A class of well-formed frames, given as the values of an injective function, has one byte for each argument. -/
theorem countP_decode_eq_card {α : Type} [Fintype α] {frame : α → Instr} (inj : Function.Injective frame)
    (wf : ∀ a, (frame a).wf = true) {p : Instr → Bool} (hp : ∀ i, i.wf = true → (p i = true ↔ ∃ a, frame a = i)) :
    (List.range 256).countP (fun n => p (decode (BitVec.ofNat 8 n))) = Fintype.card α := by
  have encode_inj : Function.Injective (fun a => encode (frame a)) := fun a c e => by
    simpa [decode_encode, wf, inj.eq_iff] using congrArg decode e
  refine countP_range_ofNat (w := 8) (q := fun b => p (decode b)) encode_inj fun b => ?_
  rw [hp _ (wf_decode b)]
  exact exists_congr fun a => by rw [eq_comm, decode_eq_iff, and_iff_right (wf a)]

theorem card_level : Fintype.card Level = 64 := by
  simp [← FinEnum.card_eq_fintypeCard]

theorem card_ctrlCode_ne_zero : Fintype.card {x : CtrlCode // x ≠ 0#7} = 127 := by
  rw [Fintype.card_subtype_compl, Fintype.card_subtype_eq, ← FinEnum.card_eq_fintypeCard, FinEnum.card_bitVec]
  rfl

/-- CTRL.RSVD has a byte for each control code that is not 0 (R63). -/
theorem countP_isCtrlRsvd : (List.range 256).countP (fun n => isCtrlRsvd (decode (BitVec.ofNat 8 n))) = 127 := by
  refine (countP_decode_eq_card (frame := fun x : {x : CtrlCode // x ≠ 0#7} => .ctrlRsvd x) ?inj ?wf ?values).trans
    card_ctrlCode_ne_zero
  case inj => exact fun x y e => Subtype.ext (Instr.ctrlRsvd.inj e)
  case wf => exact fun x => by simpa [Instr.wf] using x.2
  case values => intro i hw; cases i <;> simp_all [isCtrlRsvd, Instr.wf]

/-- LEVEL has a byte for each level (R64). -/
theorem countP_isLevel : (List.range 256).countP (fun n => isLevel (decode (BitVec.ofNat 8 n))) = 64 := by
  refine (countP_decode_eq_card (frame := .level) ?inj ?wf ?values).trans card_level
  case inj => exact fun l m e => Instr.level.inj e
  case wf => exact fun _ => rfl
  case values => intro i _; cases i <;> simp [isLevel]

/-- LEVEL.BADPAR has a byte for each level (R65). -/
theorem countP_isLevelBadpar : (List.range 256).countP (fun n => isLevelBadpar (decode (BitVec.ofNat 8 n))) = 64 := by
  refine (countP_decode_eq_card (frame := badparOf) ?inj ?wf ?values).trans card_level
  case inj => exact fun l m e => (Instr.levelBadpar.inj e).2
  case wf => exact fun l => by simp [badparOf, Instr.wf]
  case values => intro i hw; cases i <;> simp_all [isLevelBadpar, badparOf, Instr.wf, bit_ne_iff_eq_not]

/-- Settles O1: the bits of each class from the cases of the decoder, the sizes by counting well-formed frames. -/
theorem frameClassesByBits : Obligations.FrameClassesByBits :=
  ⟨fun b => ⟨decode_eq_ctrl_iff b, exists_decode_eq_ctrlRsvd_iff b, exists_decode_eq_level_iff b,
      exists_decode_eq_levelBadpar_iff b, exists_decode_eq_levelBadpar_iff_flip b⟩,
    existsUnique_decode_eq_level, countP_isCtrlRsvd, countP_isLevel, countP_isLevelBadpar⟩

end Sys2Proof.Proofs
end

section
/-! SUPPORT. The parity bit in terms of the bits of its operand (40_parity_codec.md R80, R81), and the acceptance test in
terms of the fields of a byte (R84, R85). -/

namespace Sys2Proof.Machine

theorem bitAt_eq_ofBool (v : Byte) (i : Nat) : bitAt v i = BitVec.ofBool (v.getLsbD i) := by
  rw [BitVec.getLsbD_eq_extractLsb', bitAt]
  generalize v.extractLsb' i 1 = r
  revert r
  decide

/-- R80's first form: the seven low bits, one after the other. -/
theorem par_eq_ofBool_xor (v : Byte) :
    par v = BitVec.ofBool (v.getLsbD 6 ^^ v.getLsbD 5 ^^ v.getLsbD 4 ^^ v.getLsbD 3 ^^ v.getLsbD 2 ^^ v.getLsbD 1 ^^
      v.getLsbD 0) := by
  simp only [par, parInv, bitAt_eq_ofBool, BitVec.ofBool_xor_ofBool, BitVec.xor_zero, Bool.xor_assoc]

/-- `PAR` reads bits 6 to 0 only. -/
theorem par_congr {v w : Byte} (h : ∀ i < 7, v.getLsbD i = w.getLsbD i) : par v = par w := by
  simp (disch := decide) only [par_eq_ofBool_xor, h]

theorem getLsbD_and_0x7F {i : Nat} (hi : i < 7) (v : Byte) : (v &&& 0x7F#8).getLsbD i = v.getLsbD i := by
  have ones : ∀ j < 7, (0x7F#8).getLsbD j = true := by decide
  rw [BitVec.getLsbD_and, ones i hi, Bool.and_true]

theorem getLsbD_or_0x80 {i : Nat} (hi : i < 7) (v : Byte) : (v ||| 0x80#8).getLsbD i = v.getLsbD i := by
  have zeros : ∀ j < 7, (0x80#8).getLsbD j = false := by decide
  rw [BitVec.getLsbD_or, zeros i hi, Bool.or_false]

@[simp] theorem par_and_0x7F (v : Byte) : par (v &&& 0x7F#8) = par v :=
  par_congr fun _ hi => getLsbD_and_0x7F hi v

@[simp] theorem par_or_0x80 (v : Byte) : par (v ||| 0x80#8) = par v :=
  par_congr fun _ hi => getLsbD_or_0x80 hi v

theorem countP_range_eq_sum (f : Nat → Bool) (n : Nat) :
    (List.range n).countP f = ∑ i ∈ Finset.range n, (f i).toNat := by
  induction n with
  | zero => rfl
  | succ n ih =>
    rw [List.range_succ, List.countP_append, ih, Finset.sum_range_succ, List.countP_singleton, Bool.toNat,
      Bool.cond_eq_ite]

theorem popcount_eq_sum (v : Byte) : popcount v = ∑ i ∈ Finset.range 8, (v.getLsbD i).toNat :=
  countP_range_eq_sum _ 8

theorem toNat_bool_xor (p q : Bool) : (p ^^ q).toNat = (p.toNat + q.toNat) % 2 := by
  revert p q
  decide

/-- R80's second form, for a byte with bit 7 clear. -/
theorem toNat_par_of_getLsbD_seven {v : Byte} (h : v.getLsbD 7 = false) : (par v).toNat = popcount v % 2 := by
  simp only [par_eq_ofBool_xor, BitVec.toNat_ofBool, toNat_bool_xor, popcount_eq_sum, Finset.sum_range_succ,
    Finset.sum_range_zero, h, Bool.toNat_false]
  omega

/-- R80's second form. -/
theorem toNat_par (v : Byte) : (par v).toNat = popcount (v &&& 0x7F#8) % 2 := by
  rw [← par_and_0x7F]
  exact toNat_par_of_getLsbD_seven (by simp)

theorem chk_iff (b : Byte) : chk b = true ↔ parityFlag b = par (zext8 (levelField b)) := by
  rw [chk, beq_iff_eq, zext8_levelField]

@[simp] theorem levelField_enc (l : Level) : levelField (enc l) = l :=
  levelField_append_append _ _ _

@[simp] theorem chk_enc (l : Level) : chk (enc l) = true := by
  rw [chk_iff, levelField_enc, enc, parityFlag_append_append]

/-- A level-format byte that passes the test is `ENC` of its level field. -/
theorem enc_levelField_of_chk {b : Byte} (top : b.getLsbD 7 = false) (h : chk b = true) : enc (levelField b) = b := by
  rw [enc, ← (chk_iff b).mp h, ← (requestBit_eq_zero_iff b).mpr top, requestBit_append_parityFlag_append_levelField]

end Sys2Proof.Machine
end

section
/-! PROOF. The laws of the parity codec (40_parity_codec.md R80, R81, R86). -/

namespace Sys2Proof.Proofs

open Sys2Proof Sys2Proof.Machine

/-- Settles O5: the exclusive or bit by bit, and each exclusive or as a sum modulo 2. -/
theorem parityIsPopcountParity : Obligations.ParityIsPopcountParity := fun v => by
  refine ⟨par_eq_ofBool_xor v, toNat_par v, ?even⟩
  case even => rw [toNat_par]; omega

/-- Settles O6: neither mask touches the seven bits that `PAR` reads. -/
theorem parityIgnoresBitSeven : Obligations.ParityIgnoresBitSeven := fun v =>
  ⟨(par_and_0x7F v).symm, (par_or_0x80 v).symm⟩

/-- Settles O7: the fields of an encoded level read back, and a level-format byte is put together from its fields. -/
theorem levelEncodingRoundTrip : Obligations.LevelEncodingRoundTrip := by
  refine ⟨fun l => ⟨chk_enc l, levelField_enc l⟩, fun b top => ⟨?encoded, ?accepted⟩, fun v top => ?parity⟩
  case encoded => exact fun h => (enc_levelField_of_chk top h).symm
  case accepted => exact fun h => h ▸ chk_enc _
  case parity => rw [toNat_par_of_getLsbD_seven top, Nat.xor_self]

end Sys2Proof.Proofs
end

section
/-! SUPPORT. What an APPLY answers and the duties it gives the peripheral (41_duty_cycle_register.md R93, R97, R98), and
the timestamp under the frames that apply nothing (R92). -/

namespace Sys2Proof.Machine

/-- The range check with its bound written out (R91). -/
theorem apply_of_le {level : Duty} {s : State} (hs : s.phase ≠ .halted) (hl : level ≤ 63#16) (now : Timestamp) :
    apply level now s = .ok (applyInRange level now s) :=
  apply_of_inRange hs ((inRange_iff level).mpr hl) now

@[simp] theorem applyInRange_of_current (now : Timestamp) (s : State) :
    applyInRange s.current now s = (.noChange, stamp now s) := by
  rcases applyInRange_cases s.current now s with ⟨_, e⟩ | ⟨h, _⟩ | ⟨h, _⟩
  · exact e
  · exact absurd rfl h
  · exact absurd rfl h

/-- The update detector: only the level of `current` answers `NoChange` (R93). -/
theorem applyInRange_eq_noChange_iff {level : Duty} {now : Timestamp} {s : State} :
    (applyInRange level now s).1 = .noChange ↔ level = s.current := by
  rcases applyInRange_cases level now s with ⟨h, e⟩ | ⟨h, _, e⟩ | ⟨h, _, e⟩ <;> simp [e, h]

/-- One `PROGRAM` gives the peripheral exactly one duty, whatever it answers (R109, R110). -/
@[simp] theorem filterMap_dutyOf_program (l : Level) (s : State) :
    (program l s).2.per.filterMap dutyOf = s.per.filterMap dutyOf ++ [l] := by
  cases hv : s.params.variant with
  | A => simp [program_variantA hv, programA, dutyOf]
  | B => simp [program_variantB hv, programB, seqOrder, enterSeq_per, seqCommand, List.filterMap_cons, dutyOf]

/-- An `APPLY` of another level gives the peripheral exactly that duty, also when the write fails (R94, R95). -/
theorem filterMap_dutyOf_applyInRange {level : Duty} {s : State} (h : level ≠ s.current) (now : Timestamp) :
    (applyInRange level now s).2.per.filterMap dutyOf = s.per.filterMap dutyOf ++ [dutyBits level] := by
  rcases applyInRange_cases level now s with ⟨same, _⟩ | ⟨_, _, e⟩ | ⟨_, _, e⟩
  · exact absurd same h
  · simp [e]
  · simp [e]

/-- No frame but an accepted `LEVEL` refreshes the timestamp (R92, R127, R128, R130). -/
theorem exec_lastAppliedAt_of_ne_level {i : Instr} {s t : State} (hi : ∀ l, i ≠ .level l) (h : exec i s = .next t) :
    t.lastAppliedAt = s.lastAppliedAt := by
  rw [exec_run i (exec_next_phase h)] at h
  cases i with
  | ctrl => cases h; rfl
  | ctrlRsvd x => cases h; rfl
  | level l => exact absurd rfl (hi l)
  | levelBadpar p l => cases h; rfl

end Sys2Proof.Machine
end

section
/-! PROOF. The laws of the duty cycle register (41_duty_cycle_register.md R92, R93, R98). -/

namespace Sys2Proof.Proofs

open Sys2Proof Sys2Proof.Machine

/-- Settles O24: every end of an APPLY in range keeps the stamp it began with, and the other frames call no APPLY. -/
theorem applyAlwaysStamps : Obligations.ApplyAlwaysStamps :=
  ⟨fun level now s hs hl => ⟨_, apply_of_le hs hl now, applyInRange_lastAppliedAt level now s⟩,
    fun _ _ _ hi h => exec_lastAppliedAt_of_ne_level hi h⟩

/-- Settles O28: no level in range equals `UNSET`, so the update detector sees a change and one PROGRAM follows. -/
theorem firstApplyNeverSkipped : Obligations.FirstApplyNeverSkipped := by
  refine ⟨rfl, fun level now s hs unset hl => ?_⟩
  have differs : level ≠ s.current := by
    rintro rfl
    rw [unset] at hl
    exact absurd hl (by decide)
  exact ⟨_, _, apply_of_le hs hl now, fun h => differs (applyInRange_eq_noChange_iff.mp h),
    applyInRange_current level now s, filterMap_dutyOf_applyInRange differs now⟩

/-- Settles O25: the update detector answers before any write but the stamp. -/
theorem equalLevelTouchesNothing : Obligations.EqualLevelTouchesNothing := fun now s hs hl => by
  rw [apply_of_le hs hl, applyInRange_of_current, stamp]

end Sys2Proof.Proofs
end

section
/-! SUPPORT. What the sequencer sends: the commands of a list of its states (42_pwm_sequencer.md R110, R111), and that
no operation but CONFIGURE sends a `CFG` (R108). -/

namespace Sys2Proof.Machine

/-- The trace entries of the commands sent on entry to the states `qs`, each under the mask (R110, R111). -/
def maskedCommands (p : Params) (l : Level) (qs : List Seq) : List Sent :=
  (qs.filterMap (seqCommand p l)).map fun c => ⟨c, none, true⟩

theorem maskedCommands_cons (p : Params) (l : Level) (q : Seq) (qs : List Seq) :
    maskedCommands p l (q :: qs) = maskedCommands p l [q] ++ maskedCommands p l qs := by
  rw [← List.singleton_append, maskedCommands, List.filterMap_append, List.map_append, maskedCommands, maskedCommands]

theorem enterSeq_eq (l : Level) (s : State) (q : Seq) :
    enterSeq l s q =
      { s with seq := q, irqMask := true, per := s.per ++ maskedCommands s.params l [q] } := by
  cases q with
  | idle => simp [enterSeq, seqCommand, maskedCommands, setSeq]
  | _ => rfl

/-- A whole sequence: whatever state it starts from, the commands of its states are appended and it ends idle and
unmasked (R110, R112). -/
theorem leaveSeq_foldl_enterSeq (l : Level) (qs : List Seq) (s : State) :
    leaveSeq (qs.foldl (enterSeq l) s) =
      { s with seq := .idle, irqMask := false, per := s.per ++ maskedCommands s.params l qs } := by
  induction qs generalizing s with
  | nil => simp [leaveSeq, setSeq, maskedCommands]
  | cons q qs ih => rw [List.foldl_cons, ih, enterSeq_eq, maskedCommands_cons _ _ q qs, ← List.append_assoc]

theorem programB_eq (l : Level) (s : State) :
    programB l s =
      (.ok, { s with seq := .idle, irqMask := false, per := s.per ++ maskedCommands s.params l seqOrder }) := by
  rw [programB, leaveSeq_foldl_enterSeq]
  rfl

/-! Traces that grow without a `CFG`. -/

/-- The trace `after` is `before` and then commands of which none is a `CFG`. -/
def AppendsNoCfg (before after : List Sent) : Prop :=
  ∃ sent, after = before ++ sent ∧ ∀ c ∈ sent, ∀ pin freq res, c.cmd ≠ .cfg pin freq res

theorem AppendsNoCfg.rfl {trace : List Sent} : AppendsNoCfg trace trace :=
  ⟨[], (List.append_nil trace).symm, fun _ h => nomatch h⟩

theorem seqCommand_ne_cfg {p : Params} {l : Level} {q : Seq} {c : PerCmd} (h : seqCommand p l q = some c)
    (pin freq res : Nat) : c ≠ .cfg pin freq res := by
  rintro rfl
  cases q <;> cases h

theorem program_appendsNoCfg (l : Level) (s : State) : AppendsNoCfg s.per (program l s).2.per := by
  cases hv : s.params.variant with
  | A =>
    rw [program_variantA hv]
    refine ⟨_, rfl, fun c hc => ?_⟩
    rw [List.mem_singleton.mp hc]
    exact fun _ _ _ => PerCmd.noConfusion
  | B =>
    rw [program_variantB hv, programB_eq]
    refine ⟨_, rfl, fun c hc => ?_⟩
    obtain ⟨cmd, hcmd, rfl⟩ := List.mem_map.mp hc
    obtain ⟨q, -, hq⟩ := List.mem_filterMap.mp hcmd
    exact seqCommand_ne_cfg hq

theorem applyInRange_appendsNoCfg (level : Duty) (now : Timestamp) (s : State) :
    AppendsNoCfg s.per (applyInRange level now s).2.per := by
  have programmed := program_appendsNoCfg (dutyBits level) (setCurrent level (stamp now s))
  rcases applyInRange_cases level now s with ⟨_, e⟩ | ⟨_, _, e⟩ | ⟨_, _, e⟩ <;> rw [e]
  · exact .rfl
  · exact programmed
  · exact programmed

theorem exec_appendsNoCfg {i : Instr} {s t : State} (h : exec i s = .next t) : AppendsNoCfg s.per t.per := by
  rw [exec_run i (exec_next_phase h)] at h
  cases i with
  | ctrl => cases h; exact .rfl
  | ctrlRsvd x => cases h; exact .rfl
  | level l => cases h; exact applyInRange_appendsNoCfg _ _ _
  | levelBadpar p l => cases h; exact .rfl

theorem wdtCheck_appendsNoCfg {s t : State} (h : wdtCheck s = .next t) : AppendsNoCfg s.per t.per := by
  rw [wdtCheck_run (enabledIn_next h).1] at h
  cases h
  split
  · exact applyInRange_appendsNoCfg _ _ _
  · exact .rfl

/-- A step in `RUN` sends no `CFG`: a frame and a watchdog check both only call `APPLY` (R108). -/
theorem step_run_appendsNoCfg {s t : State} (hp : s.phase = .run) (hr : resetNow s = false) (h : step s = .next t) :
    AppendsNoCfg s.per t.per := by
  rcases step_cases h with ⟨reset, _⟩ | ⟨_, boot, _⟩ | ⟨_, _, b, rest, _, frame⟩ | ⟨_, _, _, check⟩
  · simp [hr] at reset
  · simp [hp] at boot
  · simpa using exec_appendsNoCfg frame
  · simpa using wdtCheck_appendsNoCfg check

@[simp] theorem enterRun_per (r : ApplyResult × State) : (enterRun r).per = r.2.per := by
  rw [enterRun]
  split <;> rfl

/-- What STARTUP sends after its CONFIGURE holds no `CFG` (R187). -/
theorem startup_appendsNoCfg {s t : State} (h : startup s = .next t) : AppendsNoCfg (configure s).2.per t.per := by
  rcases startup_boot (enabledIn_next h).1 with ⟨_, e⟩ | ⟨_, e⟩ <;> rw [e] at h <;> cases h
  · exact .rfl
  · rw [enterRun_per]
    exact applyInRange_appendsNoCfg _ _ _

/-- A startup step sends what its CONFIGURE sends, and then no `CFG` (R108, R187). -/
theorem step_boot_appendsNoCfg {s t : State} (hp : s.phase = .boot) (hr : resetNow s = false) (h : step s = .next t) :
    AppendsNoCfg (configure (lineRead s)).2.per t.per := by
  rcases step_cases h with ⟨reset, _⟩ | ⟨_, _, start⟩ | ⟨_, run, _⟩ | ⟨_, run, _⟩
  · simp [hr] at reset
  · exact startup_appendsNoCfg start
  · simp [hp] at run
  · simp [hp] at run

/-! CONFIGURE, by variant and answer. -/

theorem configure_variantB {s : State} (h : s.params.variant = .B) : configure s = (none, s) := by
  rw [configure, h]

theorem configure_variantA_ok {s : State} (hv : s.params.variant = .A) (ha : answerValue s = .ok) :
    configure s = (none, perAsk (.cfg s.params.pwmPin s.params.pwmFreqHz 6) s) := by
  rw [configure, hv, ha]
  rfl

theorem configure_variantA_fail {s : State} (hv : s.params.variant = .A) (ha : answerValue s = .fail) :
    configure s =
      (some .periphInit, raiseHalt .periphInit (perAsk (.cfg s.params.pwmPin s.params.pwmFreqHz 6) s)) := by
  rw [configure, hv, ha]
  rfl

/-- CONFIGURE sends one `CFG` in variant A, whatever its answer, and nothing in variant B (R108). -/
theorem configure_per (s : State) :
    (configure s).2.per = s.per ++ (if s.params.variant = .A then
      [⟨.cfg s.params.pwmPin s.params.pwmFreqHz 6, some (answerValue s), s.irqMask⟩] else []) := by
  rcases configure_cases s with ⟨hv, e⟩ | ⟨hv, _, e⟩ | ⟨hv, _, e⟩ <;> simp [e, hv]

end Sys2Proof.Machine
end

section
/-! PROOF. The laws of the PWM sequencer's CONFIGURE and PROGRAM (42_pwm_sequencer.md R108 to R110). -/

namespace Sys2Proof.Proofs

open Sys2Proof Sys2Proof.Machine

/-- Settles O29: the calls by the branches of CONFIGURE; a startup step sends what CONFIGURE sends and then, like every
step in RUN, only what an APPLY sends, which is no `CFG`. -/
theorem configureOnce : Obligations.ConfigureOnce := by
  refine ⟨fun s => configure_variantA_ok, fun s => configure_variantA_fail, fun s => configure_variantB,
    fun s t hp hr h => ?boot, fun s t => step_run_appendsNoCfg⟩
  case boot =>
    obtain ⟨sent, grown, noCfg⟩ := step_boot_appendsNoCfg hp hr h
    refine ⟨sent, ?_, noCfg⟩
    by_cases hv : s.params.variant = .A <;> simp [grown, configure_per, hv]

/-- Settles O30: the branch of variant A, which is one command that reports. -/
theorem programVariantAWrites : Obligations.ProgramVariantAWrites := fun l _ hv =>
  program_variantA hv l

/-- Settles O31: the six states of the sequence, each with its command. -/
theorem programVariantBSequence : Obligations.ProgramVariantBSequence := fun l s hv =>
  (program_variantB hv l).trans (programB_eq l s)

end Sys2Proof.Proofs
end

section
/-! SUPPORT. The acceptance test in the placed form of R133, and what a level-format byte decodes to in each case of it
(40_parity_codec.md R82, R85; 43_command_decoder.md R129, R130). -/

namespace Sys2Proof.Machine

/-! The receipt line. -/

theorem received_eq (i : Instr) (s : State) : received i s = { s with diag := s.diag ++ [.rx (encode i)] } := rfl

theorem emit_received (e : DiagEvent) (i : Instr) (s : State) :
    emit e (received i s) = { s with diag := s.diag ++ [.rx (encode i), e] } := by
  rw [received_eq, emit, List.append_assoc, List.singleton_append]

/-! The placed form of the parity bit. -/

/-- Bit 6 of a byte in its place, as R82 places `PAR`. -/
theorem and_0x40_eq_parityFlag_shift (b : Byte) : b &&& 0x40#8 = (parityFlag b).zeroExtend 8 <<< 6 := by
  have flag : parityFlag b = BitVec.ofBool (b.getLsbD 6) := bitAt_eq_ofBool b 6
  have bit : b &&& 0x40#8 = if b.getLsbD 6 then 0x40#8 else 0#8 := BitVec.and_twoPow b 6
  rw [bit, flag]
  cases b.getLsbD 6 <;> rfl

theorem zeroExtend_shift_six_inj {p q : Bit} : p.zeroExtend 8 <<< 6 = q.zeroExtend 8 <<< 6 ↔ p = q := by
  revert p q
  decide

theorem chk_iff_and_0x40_eq_parMask (b : Byte) : chk b = true ↔ b &&& 0x40#8 = parMask (b &&& 0x3F#8) := by
  rw [chk, beq_iff_eq, parMask, and_0x40_eq_parityFlag_shift, zeroExtend_shift_six_inj]

/-- The level field as a duty is the low six bits left in place (R61, R129). -/
theorem zext16_levelField (b : Byte) : zext16 (levelField b) = (b &&& 0x3F#8).zeroExtend 16 := by
  rw [← zext8_levelField]
  exact (BitVec.setWidth_setWidth (by decide)).symm

/-! Decoding a level-format byte. -/

theorem decode_of_chk {b : Byte} (top : b.getLsbD 7 = false) (h : chk b = true) :
    decode b = .level (levelField b) :=
  decode_eq_level_iff.mpr (enc_levelField_of_chk top h)

theorem exists_decode_eq_levelBadpar_of_not_chk {b : Byte} (top : b.getLsbD 7 = false) (h : ¬ chk b = true) :
    ∃ p l, decode b = .levelBadpar p l := by
  rw [exists_decode_eq_levelBadpar_iff, ← zext8_levelField]
  exact ⟨top, mt (chk_iff b).mpr h⟩

/-- An accepted byte is one sample of the time and one APPLY of its level field (R129). -/
theorem decodeByte_of_chk {b : Byte} {s : State} (hs : s.phase = .run) (top : b.getLsbD 7 = false)
    (h : chk b = true) :
    decodeByte b s = .next (applyInRange (zext16 (levelField b)) (nowValue s)
      (afterNow (received (.level (levelField b)) s))).2 := by
  rw [decodeByte, decode_of_chk top h]
  exact exec_run (.level (levelField b)) hs

/-- A rejected byte leaves nothing but its receipt line (R130). -/
theorem decodeByte_of_not_chk {b : Byte} {s : State} (hs : s.phase = .run) (top : b.getLsbD 7 = false)
    (h : ¬ chk b = true) : decodeByte b s = .next { s with diag := s.diag ++ [.rx b] } := by
  obtain ⟨p, l, e⟩ := exists_decode_eq_levelBadpar_of_not_chk top h
  have byte : encode (.levelBadpar p l) = b := e ▸ encode_decode b
  rw [decodeByte, e, ← byte]
  exact exec_run (.levelBadpar p l) hs

end Sys2Proof.Machine
end

section
/-! PROOF. The laws of the command decoder (43_command_decoder.md R127, R128, R130, R133). -/

namespace Sys2Proof.Proofs

open Sys2Proof Sys2Proof.Machine

/-- Settles O22: the mask comparison is CHK; an accepted byte ends in an APPLY of its level field, a rejected one only
leaves its receipt line. -/
theorem decodeSucceedsByParity : Obligations.DecodeSucceedsByParity := fun b s hs top => by
  have accepts := chk_iff_and_0x40_eq_parMask b
  refine ⟨accepts, ?_⟩
  rw [← zext16_levelField]
  split
  next right =>
    exact ⟨_, decodeByte_of_chk hs top (accepts.mpr right), applyInRange_current _ _ _,
      applyInRange_lastAppliedAt _ _ _⟩
  next wrong => exact ⟨_, decodeByte_of_not_chk hs top (mt accepts.mp wrong), rfl, rfl, rfl⟩

/-- Settles O10: the receipt line and then the control event. -/
theorem ctrlOnlyReports : Obligations.CtrlOnlyReports := fun s hs =>
  (exec_run .ctrl hs).trans (congrArg _ (emit_received .ctrl .ctrl s))

/-- Settles O11: dropping the frame leaves the state with the receipt line. -/
theorem reservedControlDropped : Obligations.ReservedControlDropped := fun x _ hs =>
  exec_run (.ctrlRsvd x) hs

/-- Settles O12: dropping the frame leaves the state with the receipt line. -/
theorem badParityDropped : Obligations.BadParityDropped := fun p l _ hs =>
  exec_run (.levelBadpar p l) hs

end Sys2Proof.Proofs
end

section
/-! SUPPORT. The two ends of WDT_CHECK in `RUN`, with the deadline written out (44_idle_watchdog.md R140, R141). -/

namespace Sys2Proof.Machine

theorem idleExceeded_iff {maxIdle now last : Timestamp} : idleExceeded maxIdle now last = true ↔ maxIdle < now - last :=
  decide_eq_true_iff

/-- The fallback level, three quarters of `MAX_LEVEL` rounded down (R9, R143). -/
theorem fallbackLevel_eq : Config.fallbackLevel = 47#16 := rfl

/-- Strictly past the deadline the check is one APPLY of the fallback level at its own sample (R140, R143, R144). -/
theorem wdtCheck_of_exceeded {s : State} (hs : s.phase = .run)
    (past : s.params.maxIdleTime < nowValue s - s.lastAppliedAt) :
    wdtCheck s = .next (applyInRange 47#16 (nowValue s) (afterNow s)).2 := by
  rw [wdtCheck_run hs, if_pos (idleExceeded_iff.mpr past), fallbackLevel_eq]

/-- Up to and at the deadline the check takes its sample and does nothing else (R141). -/
theorem wdtCheck_of_not_exceeded {s : State} (hs : s.phase = .run)
    (quiet : ¬ s.params.maxIdleTime < nowValue s - s.lastAppliedAt) : wdtCheck s = .next (afterNow s) := by
  rw [wdtCheck_run hs, if_neg (mt idleExceeded_iff.mp quiet)]

end Sys2Proof.Machine
end

section
/-! PROOF. The laws of the idle watchdog (44_idle_watchdog.md R140, R141). -/

namespace Sys2Proof.Proofs

open Sys2Proof Sys2Proof.Machine

/-- Settles O36: the fallback level 47 is in range and the sample leaves the phase `RUN`, so the APPLY past the deadline
answers, and every such answer has the level and the stamp. -/
theorem watchdogAppliesFallback : Obligations.WatchdogAppliesFallback := fun s hs => by
  refine ⟨fun past => ?fires, wdtCheck_of_not_exceeded hs⟩
  case fires =>
    have enabled : (afterNow s).phase ≠ .halted := by simp [hs]
    exact ⟨_, apply_of_le enabled (by decide) _, wdtCheck_of_exceeded hs past, applyInRange_lastAppliedAt _ _ _,
      applyInRange_current _ _ _⟩

end Sys2Proof.Proofs
end

section
/-! SUPPORT. STARTUP by the answer of its CONFIGURE, and an APPLY of another level by the answer of its PROGRAM
(41_duty_cycle_register.md R94, R95; 70_reset_and_hazards.md R187). -/

namespace Sys2Proof.Machine

/-- The top of the range, 63 (R7). -/
theorem maxLevel_eq : Config.maxLevel = 63#16 := rfl

theorem step_boot {s : State} (hp : s.phase = .boot) (hr : resetNow s = false) : step s = startup (lineRead s) := by
  rw [step, turn, hr, hp]
  rfl

/-- A CONFIGURE that halts ends STARTUP: no sample, no APPLY (R187). -/
theorem startup_of_configure_halt {s t : State} (hp : s.phase = .boot) (h : configure s = (some .periphInit, t)) :
    startup s = .next t := by
  rcases startup_boot hp with ⟨_, e⟩ | ⟨done, _⟩
  · rw [e, h]
  · simp [h] at done

/-- A CONFIGURE that does not halt is followed by one sample and one APPLY of `MAX_LEVEL` (R187). -/
theorem startup_of_configure_done {s t : State} (hp : s.phase = .boot) (h : configure s = (none, t)) :
    startup s = .next (enterRun (applyInRange 63#16 (nowValue t) (afterNow t))) := by
  rcases startup_boot hp with ⟨halts, _⟩ | ⟨_, e⟩
  · simp [h] at halts
  · rw [e, h, maxLevel_eq]

/-- Another level whose PROGRAM answers ok is reported (R94). -/
theorem applyInRange_of_program_ok {level : Duty} {now : Timestamp} {s t : State} (differs : level ≠ s.current)
    (h : program (dutyBits level) (setCurrent level (stamp now s)) = (.ok, t)) :
    applyInRange level now s = (.changed, emit (.applied (dutyBits level)) t) := by
  rw [applyInRange, if_pos ((changes_iff level s).mpr differs), h]

/-- Another level whose PROGRAM fails halts with nothing reported (R95). -/
theorem applyInRange_of_program_fail {level : Duty} {now : Timestamp} {s t : State} (differs : level ≠ s.current)
    (h : program (dutyBits level) (setCurrent level (stamp now s)) = (.fail, t)) :
    applyInRange level now s = (.halt .periphWrite, raiseHalt .periphWrite t) := by
  rw [applyInRange, if_pos ((changes_iff level s).mpr differs), h]

/-- PROGRAM in variant A is one `WR` and answers what the peripheral answers (R109). -/
theorem program_variantA_of_answer {s : State} {a : Answer} (hv : s.params.variant = .A) (ha : answerValue s = a)
    (l : Level) : program l s = (a, perAsk (.wr s.params.pwmPin l) s) := by
  rw [program_variantA hv, programA, ha]

/-- STARTUP with an APPLY whose PROGRAM answers ok ends in `RUN`, reported (R94, R187). -/
theorem startup_of_program_ok {s t u : State} (hp : s.phase = .boot) (cfg : configure s = (none, t))
    (differs : 63#16 ≠ t.current)
    (h : program 63#6 (setCurrent 63#16 (stamp (nowValue t) (afterNow t))) = (.ok, u)) :
    startup s = .next (setPhase .run (emit (.applied 63#6) u)) := by
  rw [startup_of_configure_done hp cfg, applyInRange_of_program_ok (s := afterNow t) differs h]
  rfl

/-- STARTUP with an APPLY whose PROGRAM fails halts, unreported (R95, R187). -/
theorem startup_of_program_fail {s t u : State} (hp : s.phase = .boot) (cfg : configure s = (none, t))
    (differs : 63#16 ≠ t.current)
    (h : program 63#6 (setCurrent 63#16 (stamp (nowValue t) (afterNow t))) = (.fail, u)) :
    startup s = .next (raiseHalt .periphWrite u) := by
  rw [startup_of_configure_done hp cfg, applyInRange_of_program_fail (s := afterNow t) differs h]
  rfl

end Sys2Proof.Machine
end

section
/-! PROOF. The ends of STARTUP (70_reset_and_hazards.md R187). -/

namespace Sys2Proof.Proofs

open Sys2Proof Sys2Proof.Machine

/-- Settles O44: CONFIGURE by variant and answer; where it does not halt, `UNSET` is no level, so the APPLY of 63 calls
PROGRAM, and its answer decides the end. -/
theorem startupOutcomes : Obligations.StartupOutcomes := by
  intro s inBoot unset quiet c
  have differs : 63#16 ≠ s.current := by
    rw [unset]
    decide
  rw [step_boot inBoot quiet]
  have stillBoot : (lineRead s).phase = .boot := inBoot
  refine ⟨fun hv cfg => ?cfgFails, fun hv cfg wr => ?written, fun hv cfg wr => ?writeFails, fun hv => ?variantB⟩
  case cfgFails => exact startup_of_configure_halt stillBoot (configure_variantA_fail hv cfg)
  case written =>
    refine startup_of_program_ok stillBoot (configure_variantA_ok hv cfg) differs (program_variantA_of_answer ?_ ?_ _)
    · exact hv
    · exact wr
  case writeFails =>
    refine startup_of_program_fail stillBoot (configure_variantA_ok hv cfg) differs (program_variantA_of_answer ?_ ?_ _)
    · exact hv
    · exact wr
  case variantB =>
    refine startup_of_program_ok stillBoot (configure_variantB hv) differs
      ((program_variantB ?_ _).trans (programB_eq _ _))
    exact hv

end Sys2Proof.Proofs
end

section
/-! SUPPORT. The ends of an APPLY as whole states, by variant and answer (41_duty_cycle_register.md R93 to R95), and
what each leaves of the phase, the sequencer and the diagnostic trace. -/

namespace Sys2Proof.Machine

variable {level : Duty} {s : State}

theorem applyInRange_of_eq_current (same : level = s.current) (now : Timestamp) :
    applyInRange level now s = (.noChange, stamp now s) := by
  rw [same, applyInRange_of_current]

/-- Another level, variant A, the write answered ok (R94, R109). -/
theorem applyInRange_variantA_ok (differs : level ≠ s.current) (hv : s.params.variant = .A)
    (ha : answerValue s = .ok) (now : Timestamp) :
    applyInRange level now s = (.changed, emit (.applied (dutyBits level))
      (perAsk (.wr s.params.pwmPin (dutyBits level)) (setCurrent level (stamp now s)))) :=
  applyInRange_of_program_ok differs (program_variantA_of_answer (s := setCurrent level (stamp now s)) hv ha _)

/-- Another level, variant A, the write answered fail (R95, R109). -/
theorem applyInRange_variantA_fail (differs : level ≠ s.current) (hv : s.params.variant = .A)
    (ha : answerValue s = .fail) (now : Timestamp) :
    applyInRange level now s = (.halt .periphWrite, raiseHalt .periphWrite
      (perAsk (.wr s.params.pwmPin (dutyBits level)) (setCurrent level (stamp now s)))) :=
  applyInRange_of_program_fail differs (program_variantA_of_answer (s := setCurrent level (stamp now s)) hv ha _)

/-- Another level, variant B: the six commands of a sequence (R94, R110). -/
theorem applyInRange_variantB (differs : level ≠ s.current) (hv : s.params.variant = .B) (now : Timestamp) :
    applyInRange level now s = (.changed, emit (.applied (dutyBits level))
      { setCurrent level (stamp now s) with
        seq := .idle
        irqMask := false
        per := s.per ++ maskedCommands s.params (dutyBits level) seqOrder }) :=
  applyInRange_of_program_ok differs
    ((program_variantB (s := setCurrent level (stamp now s)) hv _).trans (programB_eq _ _))

/-- The six commands of one sequence (R110). -/
theorem maskedCommands_seqOrder (p : Params) (l : Level) :
    maskedCommands p l seqOrder =
      [⟨.tDisable, none, true⟩, ⟨.tWgm p.wgmMode, none, true⟩, ⟨.tTop p.topValue, none, true⟩,
        ⟨.tDuty l, none, true⟩, ⟨.tPindir p.pwmPin, none, true⟩, ⟨.tEnable, none, true⟩] := rfl

/-- An APPLY in range has four ends: the level of `current`, and another level by variant and answer. -/
theorem applyInRange_ends (level : Duty) (now : Timestamp) (s : State) :
    (level = s.current ∧ applyInRange level now s = (.noChange, stamp now s)) ∨
      (level ≠ s.current ∧ s.params.variant = .A ∧ answerValue s = .ok ∧
        applyInRange level now s = (.changed, emit (.applied (dutyBits level))
          (perAsk (.wr s.params.pwmPin (dutyBits level)) (setCurrent level (stamp now s))))) ∨
      (level ≠ s.current ∧ s.params.variant = .A ∧ answerValue s = .fail ∧
        applyInRange level now s = (.halt .periphWrite, raiseHalt .periphWrite
          (perAsk (.wr s.params.pwmPin (dutyBits level)) (setCurrent level (stamp now s))))) ∨
      (level ≠ s.current ∧ s.params.variant = .B ∧
        applyInRange level now s = (.changed, emit (.applied (dutyBits level))
          { setCurrent level (stamp now s) with
            seq := .idle
            irqMask := false
            per := s.per ++ maskedCommands s.params (dutyBits level) seqOrder })) := by
  by_cases same : level = s.current
  · exact .inl ⟨same, applyInRange_of_eq_current same now⟩
  · cases hv : s.params.variant
    · cases ha : answerValue s
      · exact .inr (.inl ⟨same, rfl, rfl, applyInRange_variantA_ok same hv ha now⟩)
      · exact .inr (.inr (.inl ⟨same, rfl, rfl, applyInRange_variantA_fail same hv ha now⟩))
    · exact .inr (.inr (.inr ⟨same, rfl, applyInRange_variantB same hv now⟩))

/-- In variant B an APPLY never halts (R113). -/
theorem applyInRange_phase_variantB (hv : s.params.variant = .B) (level : Duty) (now : Timestamp) :
    (applyInRange level now s).2.phase = s.phase := by
  rcases applyInRange_ends level now s with ⟨_, e⟩ | ⟨_, ha, _⟩ | ⟨_, ha, _⟩ | ⟨_, _, e⟩
  · rw [e, stamp_phase]
  · simp [hv] at ha
  · simp [hv] at ha
  · rw [e]
    rfl

/-- In variant A an APPLY leaves the sequencer alone (R109). -/
theorem applyInRange_seq_variantA (hv : s.params.variant = .A) (level : Duty) (now : Timestamp) :
    (applyInRange level now s).2.seq = s.seq ∧ (applyInRange level now s).2.irqMask = s.irqMask := by
  rcases applyInRange_ends level now s with ⟨_, e⟩ | ⟨_, _, _, e⟩ | ⟨_, _, _, e⟩ | ⟨_, hb, _⟩
  · exact ⟨by rw [e, stamp_seq], by rw [e, stamp_irqMask]⟩
  · exact ⟨by simp [e], by simp [e]⟩
  · exact ⟨by simp [e], by simp [e]⟩
  · simp [hv] at hb

/-- In variant B an APPLY asks the peripheral for no answer (R110). -/
theorem applyInRange_answers_variantB (hv : s.params.variant = .B) (level : Duty) (now : Timestamp) :
    (applyInRange level now s).2.answers = s.answers ∧ (applyInRange level now s).2.answerDraws = s.answerDraws := by
  rcases applyInRange_ends level now s with ⟨_, e⟩ | ⟨_, ha, _⟩ | ⟨_, ha, _⟩ | ⟨_, _, e⟩
  · exact ⟨by rw [e, stamp_answers], by rw [e, stamp_answerDraws]⟩
  · simp [hv] at ha
  · simp [hv] at ha
  · exact ⟨by rw [e]; rfl, by rw [e]; rfl⟩

/-- An APPLY reports nothing, or its level when it does not halt (R93 to R95). -/
theorem applyInRange_diag (level : Duty) (now : Timestamp) (s : State) :
    (applyInRange level now s).2.diag = s.diag ∨
      ((applyInRange level now s).2.diag = s.diag ++ [.applied (dutyBits level)] ∧
        (applyInRange level now s).2.phase = s.phase) := by
  rcases applyInRange_cases level now s with ⟨_, e⟩ | ⟨_, _, e⟩ | ⟨_, _, e⟩
  · exact .inl (by rw [e, stamp_diag])
  · exact .inr ⟨by simp [e], by simp [e]⟩
  · exact .inl (by simp [e])

end Sys2Proof.Machine
end

section
/-! SUPPORT. The step by what enables it, and what it does to the block's own registers and to the command trace: the
environment's inputs and the reports are no part of it (10_state.md R23, R24, R33). -/

namespace Sys2Proof.Machine

/-! The step by the reset line, the phase and the stream. -/

theorem step_reset {s : State} (hr : resetNow s = true) : step s = .next (resetEvent (lineRead s)) := by
  rw [step, turn, if_pos hr]

theorem step_halted {s : State} (hp : s.phase = .halted) (hr : resetNow s = false) : step s = .fault .halted := by
  rw [step, turn, hr, hp]
  rfl

theorem step_run {s : State} (hp : s.phase = .run) (hr : resetNow s = false) : step s = loopTurn (lineRead s) := by
  rw [step, turn, hr, hp]
  rfl

theorem loopTurn_frame {s : State} {b : Byte} {rest : List Byte} (h : s.rx ++ arriving s = b :: rest) :
    loopTurn s = exec (decode b) (setRx rest (delivered s)) := by
  have popped : rxPop (delivered s) = (some b, setRx rest (delivered s)) := by rw [rxPop, delivered_rx, h]
  rw [loopTurn, popped]
  rfl

theorem loopTurn_drained {s : State} (hp : s.phase = .run) (h : s.rx ++ arriving s = []) :
    loopTurn s = wdtCheck (delivered s) := by
  have drained : rxPop (delivered s) = (none, delivered s) := by rw [rxPop, delivered_rx, h]
  rw [loopTurn, drained]
  exact checkAndYield_run (s := delivered s) hp

/-! What a step does, the inputs and the reports left aside. -/

/-- The registers, the command trace and the parameters: a state without what the environment gives and what is reported
to it. -/
structure Block where
  current : Duty
  lastAppliedAt : Timestamp
  phase : Phase
  seq : Seq
  irqMask : Bool
  per : List Sent
  params : Params

/-- The block's own part of a state. -/
def block (s : State) : Block := ⟨s.current, s.lastAppliedAt, s.phase, s.seq, s.irqMask, s.per, s.params⟩

/-- The two states differ in what the environment gave and in what was reported only. -/
def SameBlock (s u : State) : Prop := block u = block s

theorem SameBlock.current {s u : State} (h : SameBlock s u) : u.current = s.current := congrArg Block.current h
theorem SameBlock.phase {s u : State} (h : SameBlock s u) : u.phase = s.phase := congrArg Block.phase h
theorem SameBlock.seq {s u : State} (h : SameBlock s u) : u.seq = s.seq := congrArg Block.seq h
theorem SameBlock.irqMask {s u : State} (h : SameBlock s u) : u.irqMask = s.irqMask := congrArg Block.irqMask h
theorem SameBlock.per {s u : State} (h : SameBlock s u) : u.per = s.per := congrArg Block.per h
theorem SameBlock.params {s u : State} (h : SameBlock s u) : u.params = s.params := congrArg Block.params h

/-- The ends of a step as they concern the registers, the command trace and the parameters. -/
inductive StepEffect (s : State) : State → Prop
  /-- A reset event (R185). -/
  | reset (u : State) (line : resetNow s = true) (same : SameBlock s u) : StepEffect s (resetEvent u)
  /-- A startup whose CONFIGURE halts (R187). -/
  | cfgFails (u : State) (line : resetNow s = false) (inBoot : s.phase = .boot) (same : SameBlock s u)
      (halts : (configure u).1 = some .periphInit) : StepEffect s (configure u).2
  /-- A startup that comes to its APPLY of 63 (R187). -/
  | started (u : State) (now : Timestamp) (line : resetNow s = false) (inBoot : s.phase = .boot)
      (same : SameBlock s u) (done : (configure u).1 = none) :
      StepEffect s (enterRun (applyInRange 63#16 now (afterNow (configure u).2)))
  /-- A frame or a watchdog check that applies nothing (R127, R128, R130, R141). -/
  | quiet (u : State) (line : resetNow s = false) (inRun : s.phase = .run) (same : SameBlock s u) : StepEffect s u
  /-- The APPLY of a `LEVEL` frame or of the watchdog (R129, R143). -/
  | applied (u : State) (level : Duty) (now : Timestamp) (line : resetNow s = false) (inRun : s.phase = .run)
      (same : SameBlock s u) (le : level ≤ 63#16) : StepEffect s (applyInRange level now u).2

theorem zext16_le (l : Level) : zext16 l ≤ 63#16 := (inRange_iff _).mp (inRange_zext16 l)

theorem exec_effect {i : Instr} {s u t : State} (line : resetNow s = false) (inRun : s.phase = .run)
    (same : SameBlock s u) (h : exec i u = .next t) : StepEffect s t := by
  rw [exec_run i (exec_next_phase h)] at h
  cases i with
  | ctrl => cases h; exact .quiet _ line inRun same
  | ctrlRsvd x => cases h; exact .quiet _ line inRun same
  | level n => cases h; exact .applied _ _ _ line inRun same (zext16_le n)
  | levelBadpar x n => cases h; exact .quiet _ line inRun same

theorem wdtCheck_effect {s u t : State} (line : resetNow s = false) (inRun : s.phase = .run)
    (same : SameBlock s u) (h : wdtCheck u = .next t) : StepEffect s t := by
  rw [wdtCheck_run (enabledIn_next h).1] at h
  cases h
  split
  · exact .applied _ _ _ line inRun same (by decide)
  · exact .quiet _ line inRun same

theorem startup_effect {s u t : State} (line : resetNow s = false) (inBoot : s.phase = .boot)
    (same : SameBlock s u) (h : startup u = .next t) : StepEffect s t := by
  rcases startup_boot (enabledIn_next h).1 with ⟨halts, e⟩ | ⟨done, e⟩ <;> rw [e] at h <;> cases h
  · exact .cfgFails _ line inBoot same halts
  · exact .started _ _ line inBoot same done

/-- Every next state of a step is one of the ends of `StepEffect`. -/
theorem step_effect {s t : State} (h : step s = .next t) : StepEffect s t := by
  rcases step_cases h with ⟨line, rfl⟩ | ⟨line, inBoot, start⟩ | ⟨line, inRun, b, rest, _, frame⟩ |
    ⟨line, inRun, _, check⟩
  · exact .reset (lineRead s) line rfl
  · exact startup_effect line inBoot (u := lineRead s) rfl start
  · exact exec_effect line inRun (u := setRx rest (delivered (lineRead s))) rfl frame
  · exact wdtCheck_effect line inRun (u := delivered (lineRead s)) rfl check

/-! The fields of the ends of a startup. -/

theorem configure_halts {s : State} (h : (configure s).1 = some .periphInit) :
    s.params.variant = .A ∧ (configure s).2 =
      raiseHalt .periphInit (perAsk (.cfg s.params.pwmPin s.params.pwmFreqHz 6) s) := by
  rcases configure_cases s with ⟨_, e⟩ | ⟨_, _, e⟩ | ⟨hv, _, e⟩
  · simp [e] at h
  · simp [e] at h
  · exact ⟨hv, by rw [e]⟩

theorem configure_done {s : State} (h : (configure s).1 = none) :
    (s.params.variant = .B ∧ (configure s).2 = s) ∨
      (s.params.variant = .A ∧ answerValue s = .ok ∧
        (configure s).2 = perAsk (.cfg s.params.pwmPin s.params.pwmFreqHz 6) s) := by
  rcases configure_cases s with ⟨hv, e⟩ | ⟨hv, ha, e⟩ | ⟨_, _, e⟩
  · exact .inl ⟨hv, by rw [e]⟩
  · exact .inr ⟨hv, ha, by rw [e]⟩
  · simp [e] at h

@[simp] theorem configure_current (s : State) : (configure s).2.current = s.current := by
  rcases configure_cases s with ⟨_, e⟩ | ⟨_, _, e⟩ | ⟨_, _, e⟩ <;> rw [e] <;> rfl

@[simp] theorem configure_lastAppliedAt (s : State) : (configure s).2.lastAppliedAt = s.lastAppliedAt := by
  rcases configure_cases s with ⟨_, e⟩ | ⟨_, _, e⟩ | ⟨_, _, e⟩ <;> rw [e] <;> rfl

@[simp] theorem configure_seq (s : State) : (configure s).2.seq = s.seq := by
  rcases configure_cases s with ⟨_, e⟩ | ⟨_, _, e⟩ | ⟨_, _, e⟩ <;> rw [e] <;> rfl

@[simp] theorem configure_irqMask (s : State) : (configure s).2.irqMask = s.irqMask := by
  rcases configure_cases s with ⟨_, e⟩ | ⟨_, _, e⟩ | ⟨_, _, e⟩ <;> rw [e] <;> rfl

@[simp] theorem configure_params (s : State) : (configure s).2.params = s.params := by
  rcases configure_cases s with ⟨_, e⟩ | ⟨_, _, e⟩ | ⟨_, _, e⟩ <;> rw [e] <;> rfl

@[simp] theorem nowValue_configure (s : State) : nowValue (configure s).2 = nowValue s := by
  rcases configure_cases s with ⟨_, e⟩ | ⟨_, _, e⟩ | ⟨_, _, e⟩ <;> rw [e] <;> rfl

theorem configure_phase_of_halts {s : State} (h : (configure s).1 = some .periphInit) :
    (configure s).2.phase = .halted := by
  rw [(configure_halts h).2, raiseHalt_phase]

theorem configure_phase_of_done {s : State} (h : (configure s).1 = none) : (configure s).2.phase = s.phase := by
  rcases configure_done h with ⟨_, e⟩ | ⟨_, _, e⟩ <;> rw [e]
  rfl

@[simp] theorem enterRun_current (r : ApplyResult × State) : (enterRun r).current = r.2.current := by
  rw [enterRun]
  split <;> rfl

@[simp] theorem enterRun_lastAppliedAt (r : ApplyResult × State) : (enterRun r).lastAppliedAt = r.2.lastAppliedAt := by
  rw [enterRun]
  split <;> rfl

@[simp] theorem enterRun_seq (r : ApplyResult × State) : (enterRun r).seq = r.2.seq := by
  rw [enterRun]
  split <;> rfl

@[simp] theorem enterRun_irqMask (r : ApplyResult × State) : (enterRun r).irqMask = r.2.irqMask := by
  rw [enterRun]
  split <;> rfl

@[simp] theorem enterRun_params (r : ApplyResult × State) : (enterRun r).params = r.2.params := by
  rw [enterRun]
  split <;> rfl

/-- A startup comes to its APPLY still in `BOOT` (R187). -/
theorem phase_before_startup_apply {s u : State} (inBoot : s.phase = .boot) (same : SameBlock s u)
    (done : (configure u).1 = none) : (afterNow (configure u).2).phase = .boot := by
  rw [afterNow_phase, configure_phase_of_done done, same.phase, inBoot]

/-- A startup ends in `RUN` when its APPLY does not halt, else in `HALTED` (R187). -/
theorem enterRun_applyInRange_phase (level : Duty) (now : Timestamp) {s : State} (hs : s.phase = .boot) :
    ((enterRun (applyInRange level now s)).phase = .run ∧ (applyInRange level now s).2.phase ≠ .halted) ∨
      ((enterRun (applyInRange level now s)).phase = .halted ∧ (applyInRange level now s).2.phase = .halted) := by
  rcases applyInRange_cases level now s with ⟨_, e⟩ | ⟨_, _, e⟩ | ⟨_, _, e⟩ <;> rw [e]
  · exact .inl ⟨rfl, by simp [hs]⟩
  · exact .inl ⟨rfl, by simp [hs]⟩
  · exact .inr ⟨rfl, rfl⟩

end Sys2Proof.Machine
end

section
/-! PROOF. The invariants of single registers along a step (10_state.md R21, R23, R24, R25, R28). -/

namespace Sys2Proof.Machine

theorem applyInRange_sequencerIdle {s : State} (h : Safety.SequencerIdle s) (level : Duty) (now : Timestamp) :
    Safety.SequencerIdle (applyInRange level now s).2 := by
  rcases applyInRange_ends level now s with ⟨_, e⟩ | ⟨_, _, _, e⟩ | ⟨_, _, _, e⟩ | ⟨_, _, e⟩ <;> rw [e]
  · exact h
  · exact h
  · exact h
  · exact ⟨rfl, rfl⟩

/-- An APPLY outside `HALTED` ends in the phase it began in, or in `HALTED` (R95). -/
theorem applyInRange_phase_or_halted (level : Duty) (now : Timestamp) (s : State) :
    (applyInRange level now s).2.phase = s.phase ∨ (applyInRange level now s).2.phase = .halted :=
  (applyInRange_phase level now s).imp_right And.right

theorem dutyInRange_of_unset {s : State} (unset : s.current = 0xFFFF#16) (notRun : s.phase ≠ .run) :
    Safety.DutyInRange s :=
  ⟨.inl unset, fun h => absurd h notRun, fun _ => unset⟩

theorem dutyInRange_of_le {s : State} (le : s.current ≤ 63#16) (notBoot : s.phase ≠ .boot) : Safety.DutyInRange s :=
  ⟨.inr le, fun _ => le, fun h => absurd h notBoot⟩

end Sys2Proof.Machine

namespace Sys2Proof.Proofs

open Sys2Proof Sys2Proof.Machine Sys2Proof.Safety

/-- Settles O48: each end of a step is in the phase its operation leads to. -/
theorem phaseMoves : Obligations.PhaseMoves := fun s t h => by
  cases step_effect h with
  | reset u line same => exact .inl ⟨line, rfl⟩
  | cfgFails u line inBoot same halts => exact .inr (.inl ⟨line, inBoot, .inr (configure_phase_of_halts halts)⟩)
  | started u now line inBoot same done =>
    have ends := enterRun_applyInRange_phase 63#16 now (phase_before_startup_apply inBoot same done)
    exact .inr (.inl ⟨line, inBoot, ends.imp And.left And.left⟩)
  | quiet _ line inRun same => exact .inr (.inr ⟨line, inRun, .inl (same.phase.trans inRun)⟩)
  | applied u level now line inRun same le =>
    refine .inr (.inr ⟨line, inRun, ?_⟩)
    simpa [same.phase, inRun] using applyInRange_phase_or_halted level now u

/-- Settles O55: no end of a step writes the parameters. -/
theorem parametersConstant : Obligations.ParametersConstant := fun s t h => by
  cases step_effect h with
  | reset u line same => exact same.params
  | cfgFails u line inBoot same halts => rw [configure_params, same.params]
  | started u now line inBoot same done =>
    rw [enterRun_params, applyInRange_params, afterNow_params, configure_params, same.params]
  | quiet _ line inRun same => exact same.params
  | applied u level now line inRun same le => rw [applyInRange_params, same.params]

/-- Settles O51: only PROGRAM of variant B moves the sequencer, and it comes back to idle and unmasked. -/
theorem sequencerIdleKept : Obligations.SequencerIdleKept := fun s t ⟨idle, unmasked⟩ h => by
  cases step_effect h with
  | reset u line same => exact ⟨rfl, rfl⟩
  | cfgFails u line inBoot same halts =>
    exact ⟨by rw [configure_seq, same.seq, idle], by rw [configure_irqMask, same.irqMask, unmasked]⟩
  | started u now line inBoot same done =>
    have configured : SequencerIdle (afterNow (configure u).2) :=
      ⟨by rw [afterNow_seq, configure_seq, same.seq, idle],
        by rw [afterNow_irqMask, configure_irqMask, same.irqMask, unmasked]⟩
    have applied := applyInRange_sequencerIdle configured 63#16 now
    exact ⟨(enterRun_seq _).trans applied.1, (enterRun_irqMask _).trans applied.2⟩
  | quiet _ line inRun same => exact ⟨same.seq.trans idle, same.irqMask.trans unmasked⟩
  | applied u level now line inRun same le =>
    exact applyInRange_sequencerIdle ⟨same.seq.trans idle, same.irqMask.trans unmasked⟩ level now

/-- Without a reset at the line no step ends in `BOOT` (R23). -/
theorem step_phase_ne_boot {s t : State} (line : resetNow s = false) (h : step s = .next t) : t.phase ≠ .boot := by
  rcases phaseMoves s t h with ⟨reset, _⟩ | ⟨_, _, p | p⟩ | ⟨_, _, p | p⟩
  · simp [line] at reset
  all_goals simp [p]

/-- Settles O50: `current` is `UNSET` until a startup comes to its APPLY, and every APPLY leaves its own level, which
has passed the range check. -/
theorem dutyRangeKept : Obligations.DutyRangeKept := fun s t ⟨_, inRunLe, inBootUnset⟩ h => by
  cases step_effect h with
  | reset u line same => exact dutyInRange_of_unset rfl (by simp)
  | cfgFails u line inBoot same halts =>
    refine dutyInRange_of_unset ?_ ?_
    · rw [configure_current, same.current, inBootUnset inBoot]
    · simp [configure_phase_of_halts halts]
  | started u now line inBoot same done =>
    refine dutyInRange_of_le ?_ (step_phase_ne_boot line h)
    rw [enterRun_current, applyInRange_current]
    exact BitVec.le_refl _
  | quiet _ line inRun same =>
    refine dutyInRange_of_le ?_ (step_phase_ne_boot line h)
    rw [same.current]
    exact inRunLe inRun
  | applied u level now line inRun same le =>
    refine dutyInRange_of_le ?_ (step_phase_ne_boot line h)
    rwa [applyInRange_current]

end Sys2Proof.Proofs
end

section
/-! SUPPORT. What a growing command trace keeps of the peripheral: the configuration, the output level and the first
duty (10_state.md R35, 42_pwm_sequencer.md R108, R119). -/

namespace Sys2Proof.Machine

/-- Only a `CFG` configures the peripheral (R35). -/
theorem observe_configured {c : Sent} (h : ∀ pin freq res, c.cmd ≠ .cfg pin freq res) (v : PerView) :
    (observe v c).configured = v.configured := by
  obtain ⟨cmd, answer, masked⟩ := c
  cases cmd with
  | cfg pin freq res => exact absurd rfl (h pin freq res)
  | wr pin l => simp only [observe]; split_ifs <;> rfl
  | tDuty l => simp only [observe]; split_ifs <;> rfl
  | tEnable => simp only [observe]; split_ifs <;> rfl
  | _ => rfl

theorem foldl_observe_configured {sent : List Sent} (h : ∀ c ∈ sent, ∀ pin freq res, c.cmd ≠ .cfg pin freq res)
    (v : PerView) : (sent.foldl observe v).configured = v.configured := by
  induction sent generalizing v with
  | nil => rfl
  | cons c sent ih =>
    rw [List.foldl_cons, ih fun d hd => h d (List.mem_cons_of_mem c hd), observe_configured (h c List.mem_cons_self)]

theorem AppendsNoCfg.perView_configured {before after : List Sent} (h : AppendsNoCfg before after) :
    (perView after).configured = (perView before).configured := by
  obtain ⟨sent, rfl, noCfg⟩ := h
  rw [perView_append, foldl_observe_configured noCfg]

/-- An APPLY that does not halt leaves the output level at its level, where it was there for an equal level and the
peripheral of variant A is configured (R93, R94, R114). -/
theorem outLevel_applyInRange {level : Duty} {now : Timestamp} {s : State}
    (configured : s.params.variant = .A → (perView s.per).configured = true)
    (follows : level = s.current → outLevel s.per = some (dutyBits level))
    (notHalted : (applyInRange level now s).2.phase ≠ .halted) :
    outLevel (applyInRange level now s).2.per = some (dutyBits level) := by
  rcases applyInRange_cases level now s with ⟨same, e⟩ | ⟨_, ok, e⟩ | ⟨_, _, e⟩
  · rw [e]
    exact follows same
  · rw [e, emit_per]
    cases hv : s.params.variant with
    | A =>
      rw [outLevel_program_variantA (s := setCurrent level (stamp now s)) hv (configured hv), if_pos ok]
    | B => exact outLevel_program_variantB (s := setCurrent level (stamp now s)) hv _
  · simp [e] at notHalted

/-- After its CONFIGURE a startup has a configured peripheral in variant A (R108, R187). -/
theorem perView_configured_of_configure_done {s : State} (h : (configure s).1 = none) (hv : s.params.variant = .A) :
    (perView (configure s).2.per).configured = true := by
  rcases configure_done h with ⟨hb, _⟩ | ⟨_, ok, e⟩
  · simp [hv] at hb
  · rw [e, perAsk_per, perView_append, ok]
    rfl

theorem firstDuty_eq_head? (trace : List Sent) : firstDuty trace = (trace.filterMap dutyOf).head? :=
  (List.head?_filterMap ..).symm

/-- An APPLY of another level gives the first duty if none was given before, else it keeps it (R94, R95, R119). -/
theorem firstDuty_applyInRange {level : Duty} {s : State} (differs : level ≠ s.current) (now : Timestamp) :
    firstDuty (applyInRange level now s).2.per = (firstDuty s.per).or (some (dutyBits level)) := by
  rw [firstDuty_eq_head?, filterMap_dutyOf_applyInRange differs, List.head?_append, firstDuty_eq_head?]
  rfl

/-- No APPLY changes a first duty that was given (R119). -/
theorem firstDuty_applyInRange_of_some {s : State} {l : Level} (h : firstDuty s.per = some l) (level : Duty)
    (now : Timestamp) : firstDuty (applyInRange level now s).2.per = some l := by
  by_cases same : level = s.current
  · rw [same, applyInRange_of_current, stamp_per, h]
  · rw [firstDuty_applyInRange same, h, Option.some_or]

/-- A CONFIGURE gives the peripheral no duty (R108). -/
theorem firstDuty_configure (s : State) : firstDuty (configure s).2.per = firstDuty s.per := by
  rw [configure_per]
  split
  · simp [firstDuty_eq_head?, dutyOf]
  · rw [List.append_nil]

end Sys2Proof.Machine
end

section
/-! SUPPORT. The ordering invariant of a command trace, one command at a time (42_pwm_sequencer.md R106). -/

namespace Sys2Proof.Machine

open Sys2Proof.Safety

/-- The command may follow the trace: the ordering invariant asks nothing else of it (R106). -/
def MayFollow (before : List Sent) (c : Sent) : Prop :=
  (∀ pin l, c.cmd = .wr pin l → ∃ d ∈ before, ConfiguredOk d) ∧
    (∀ l, c.cmd = .tDuty l → ∃ earlier mode top, before.map Sent.cmd = earlier ++ [.tDisable, .tWgm mode, .tTop top])

theorem modeBeforeDuty_nil : ModeBeforeDuty [] := fun before c after h => by
  simp at h

theorem modeBeforeDuty_snoc {trace : List Sent} {c : Sent} (h : ModeBeforeDuty trace) (hc : MayFollow trace c) :
    ModeBeforeDuty (trace ++ [c]) := by
  intro before d after split
  rcases List.eq_nil_or_concat after with rfl | ⟨rest, last, rfl⟩
  · obtain ⟨rfl, same⟩ := List.append_inj' split rfl
    obtain rfl : c = d := by simpa using same
    exact hc
  · rw [List.concat_eq_append, ← List.cons_append, ← List.append_assoc] at split
    exact h before d rest (List.append_inj' split rfl).1

theorem mayFollow_cfg (trace : List Sent) (pin freq res : Nat) (a : Option Answer) (m : Bool) :
    MayFollow trace ⟨.cfg pin freq res, a, m⟩ :=
  ⟨nofun, nofun⟩

theorem mayFollow_wr {trace : List Sent} (configured : ∃ d ∈ trace, ConfiguredOk d) (pin : Nat) (l : Level)
    (a : Option Answer) (m : Bool) : MayFollow trace ⟨.wr pin l, a, m⟩ :=
  ⟨fun _ _ _ => configured, nofun⟩

/-- The six commands of a sequence may follow any trace (R106, R110). -/
theorem modeBeforeDuty_append_sequence {trace : List Sent} (h : ModeBeforeDuty trace) (p : Params) (l : Level) :
    ModeBeforeDuty (trace ++ maskedCommands p l seqOrder) := by
  have mode : ModeBeforeDuty
      (trace ++ [⟨.tDisable, none, true⟩] ++ [⟨.tWgm p.wgmMode, none, true⟩] ++ [⟨.tTop p.topValue, none, true⟩]) :=
    modeBeforeDuty_snoc (modeBeforeDuty_snoc (modeBeforeDuty_snoc h ⟨nofun, nofun⟩) ⟨nofun, nofun⟩) ⟨nofun, nofun⟩
  have duty := modeBeforeDuty_snoc (c := ⟨.tDuty l, none, true⟩) mode
    ⟨nofun, fun _ _ => ⟨trace.map Sent.cmd, p.wgmMode, p.topValue, by simp⟩⟩
  have whole := modeBeforeDuty_snoc (c := ⟨.tEnable, none, true⟩)
    (modeBeforeDuty_snoc (c := ⟨.tPindir p.pwmPin, none, true⟩) duty ⟨nofun, nofun⟩) ⟨nofun, nofun⟩
  simpa [maskedCommands_seqOrder] using whole

/-- An APPLY keeps the ordering invariant where the peripheral of variant A is configured (R106). -/
theorem modeBeforeDuty_applyInRange {s : State} (h : ModeBeforeDuty s.per)
    (configured : s.params.variant = .A → ∃ d ∈ s.per, ConfiguredOk d) (level : Duty) (now : Timestamp) :
    ModeBeforeDuty (applyInRange level now s).2.per := by
  rcases applyInRange_ends level now s with ⟨_, e⟩ | ⟨_, hv, _, e⟩ | ⟨_, hv, _, e⟩ | ⟨_, _, e⟩ <;> rw [e]
  · exact h
  · exact modeBeforeDuty_snoc h (mayFollow_wr (configured hv) _ _ _ _)
  · exact modeBeforeDuty_snoc h (mayFollow_wr (configured hv) _ _ _ _)
  · exact modeBeforeDuty_append_sequence h _ _

/-- A command once sent stays in the trace of an APPLY. -/
theorem mem_applyInRange_per {s : State} {d : Sent} (h : d ∈ s.per) (level : Duty) (now : Timestamp) :
    d ∈ (applyInRange level now s).2.per := by
  obtain ⟨sent, e⟩ := applyInRange_per level now s
  exact e ▸ List.mem_append_left sent h

theorem modeBeforeDuty_configure {s : State} (h : ModeBeforeDuty s.per) : ModeBeforeDuty (configure s).2.per := by
  rw [configure_per]
  split
  · exact modeBeforeDuty_snoc h (mayFollow_cfg _ _ _ _ _ _)
  · rwa [List.append_nil]

theorem exists_configuredOk_of_configure_done {s : State} (h : (configure s).1 = none) (hv : s.params.variant = .A) :
    ∃ d ∈ (configure s).2.per, ConfiguredOk d := by
  rcases configure_done h with ⟨hb, _⟩ | ⟨_, ok, e⟩
  · simp [hv] at hb
  · rw [e, perAsk_per, ok]
    exact ⟨_, List.mem_append_right _ List.mem_cons_self, ⟨_, _, _, rfl⟩, rfl⟩

end Sys2Proof.Machine
end

section
/-! PROOF. The invariants of the command trace along a step (10_state.md R35, 42_pwm_sequencer.md R106, R119). -/

namespace Sys2Proof.Proofs

open Sys2Proof Sys2Proof.Machine Sys2Proof.Safety

/-- Settles O34: a reset empties the trace, a startup sends the `CFG` before its APPLY, and an APPLY sends a `WR` to a
configured peripheral or a whole sequence. -/
theorem modeBeforeDutyKept : Obligations.ModeBeforeDutyKept := fun s t ⟨ordered, configured⟩ h => by
  cases step_effect h with
  | reset u line same => exact ⟨modeBeforeDuty_nil, nofun⟩
  | cfgFails u line inBoot same halts =>
    refine ⟨modeBeforeDuty_configure (same.per ▸ ordered), fun inRun => ?_⟩
    simp [configure_phase_of_halts halts] at inRun
  | started u now line inBoot same done =>
    have orderedCfg : ModeBeforeDuty (afterNow (configure u).2).per := modeBeforeDuty_configure (same.per ▸ ordered)
    have cfgSent (hv : (configure u).2.params.variant = .A) : ∃ d ∈ (configure u).2.per, ConfiguredOk d :=
      exists_configuredOk_of_configure_done done (configure_params u ▸ hv)
    rw [ModeFirst, enterRun_per, enterRun_params, applyInRange_params]
    refine ⟨modeBeforeDuty_applyInRange orderedCfg cfgSent _ _, fun _ hv => ?_⟩
    obtain ⟨d, hd, ok⟩ := cfgSent hv
    exact ⟨d, mem_applyInRange_per (s := afterNow (configure u).2) hd _ _, ok⟩
  | quiet _ line inRun same =>
    rw [ModeFirst, same.per, same.params]
    exact ⟨ordered, fun _ => configured inRun⟩
  | applied u level now line inRun same le =>
    have sent : u.params.variant = .A → ∃ d ∈ u.per, ConfiguredOk d := by
      rw [same.params, same.per]
      exact configured inRun
    rw [ModeFirst, applyInRange_params]
    refine ⟨modeBeforeDuty_applyInRange (same.per ▸ ordered) sent _ _, fun _ hv => ?_⟩
    obtain ⟨d, hd, ok⟩ := sent hv
    exact ⟨d, mem_applyInRange_per hd _ _, ok⟩

/-- A startup's APPLY is of another level, since `current` is `UNSET` before it (R98, R187). -/
theorem maxLevel_ne_current_of_boot {s u : State} (range : DutyInRange s) (inBoot : s.phase = .boot)
    (same : SameBlock s u) : 63#16 ≠ (afterNow (configure u).2).current := by
  obtain ⟨-, -, unset⟩ := range
  rw [afterNow_current, configure_current, same.current, unset inBoot]
  decide

/-- Settles O52: an APPLY that does not halt programs its level or finds it programmed, and only a startup's CONFIGURE
touches the configuration. -/
theorem outputFollowsDutyKept : Obligations.OutputFollowsDutyKept := fun s t range follows h => by
  intro inRunAfter
  cases step_effect h with
  | reset u line same => exact nomatch inRunAfter
  | cfgFails u line inBoot same halts => simp [configure_phase_of_halts halts] at inRunAfter
  | started u now line inBoot same done =>
    have differs := maxLevel_ne_current_of_boot range inBoot same
    have cfgSent (hv : (configure u).2.params.variant = .A) : (perView (configure u).2.per).configured = true :=
      perView_configured_of_configure_done done (configure_params u ▸ hv)
    rcases enterRun_applyInRange_phase 63#16 now (phase_before_startup_apply inBoot same done) with
      ⟨-, programmed⟩ | ⟨halted, -⟩
    · rw [enterRun_per, enterRun_current, enterRun_params, applyInRange_current, applyInRange_params,
        (applyInRange_appendsNoCfg _ _ _).perView_configured]
      exact ⟨outLevel_applyInRange (s := afterNow (configure u).2) cfgSent (absurd · differs) programmed, cfgSent⟩
    · simp [halted] at inRunAfter
  | quiet _ line inRun same =>
    rw [same.per, same.current, same.params]
    exact follows inRun
  | applied u level now line inRun same le =>
    have notHalted : (applyInRange level now u).2.phase ≠ .halted := by simp [inRunAfter]
    obtain ⟨out, configured⟩ := follows inRun
    rw [← same.per, ← same.params] at configured
    rw [applyInRange_current, applyInRange_params, (applyInRange_appendsNoCfg _ _ _).perView_configured]
    refine ⟨outLevel_applyInRange configured (fun equal => ?_) notHalted, configured⟩
    rw [same.per, out, equal, same.current]

/-- Settles O53: a startup's APPLY gives the duty 63 to a trace without one, and no later APPLY changes the first
duty. -/
theorem firstDutyFullKept : Obligations.FirstDutyFullKept := fun s t range ⟨noneInBoot, fullInRun, noneOrFull⟩ h => by
  cases step_effect h with
  | reset u line same => exact ⟨fun _ => rfl, nofun, .inl rfl⟩
  | cfgFails u line inBoot same halts =>
    have noDuty : firstDuty (configure u).2.per = none := by
      rw [firstDuty_configure, same.per, noneInBoot inBoot]
    exact ⟨fun _ => noDuty, fun inRun => by simp [configure_phase_of_halts halts] at inRun, .inl noDuty⟩
  | started u now line inBoot same done =>
    have noDuty : firstDuty (afterNow (configure u).2).per = none := by
      rw [afterNow_per, firstDuty_configure, same.per, noneInBoot inBoot]
    have full : firstDuty (enterRun (applyInRange 63#16 now (afterNow (configure u).2))).per = some 63#6 := by
      rw [enterRun_per, firstDuty_applyInRange (maxLevel_ne_current_of_boot range inBoot same), noDuty]
      rfl
    exact ⟨fun inBootAfter => absurd inBootAfter (step_phase_ne_boot line h), fun _ => full, .inr full⟩
  | quiet _ line inRun same =>
    have full : firstDuty t.per = some 63#6 := same.per ▸ fullInRun inRun
    exact ⟨fun inBootAfter => absurd inBootAfter (step_phase_ne_boot line h), fun _ => full, .inr full⟩
  | applied u level now line inRun same le =>
    have full := firstDuty_applyInRange_of_some (s := u) (same.per ▸ fullInRun inRun) level now
    exact ⟨fun inBootAfter => absurd inBootAfter (step_phase_ne_boot line h), fun _ => full, .inr full⟩

/-- Settles O54: at reset `current` is `UNSET`, the block is in `BOOT`, and the trace is empty. -/
theorem invariantsAtReset : Obligations.InvariantsAtReset :=
  ⟨dutyInRange_of_unset rfl nofun, ⟨rfl, rfl⟩, ⟨modeBeforeDuty_nil, nofun⟩, nofun, fun _ => rfl, nofun, .inl rfl⟩

end Sys2Proof.Proofs
end

section
/-! SUPPORT. The scripted inputs and the free values after them (10_state.md R30, 20_memory.md R41; log 2, log 3). -/

namespace Sys2Proof.Machine

variable {s : State}

theorem nowValue_cons {t : Timestamp} {ts : List Timestamp} (h : s.times = t :: ts) : nowValue s = t := by
  rw [nowValue, h]

theorem nowValue_nil (h : s.times = []) : nowValue s = Config.freeTime s.timeDraws := by
  rw [nowValue, h]

theorem answerValue_cons {a : Answer} {as : List Answer} (h : s.answers = a :: as) : answerValue s = a := by
  rw [answerValue, h]

theorem answerValue_nil (h : s.answers = []) : answerValue s = Config.freeAnswer s.answerDraws := by
  rw [answerValue, h]

theorem arriving_cons {batch : List Byte} {later : List (List Byte)} (h : s.arrivals = batch :: later) :
    arriving s = batch := by
  rw [arriving, h]

theorem arriving_nil (h : s.arrivals = []) : arriving s = Config.freeArrival s.arrivalDraws := by
  rw [arriving, h]

end Sys2Proof.Machine
end

section
/-! PROOF. The environment's primitives (10_state.md R30, 20_memory.md R41). -/

namespace Sys2Proof.Proofs

open Sys2Proof Sys2Proof.Machine

/-- Settles O60: each primitive by whether its script has an entry left. -/
theorem inputsInOrder : Obligations.InputsInOrder := by
  refine ⟨fun s t ts h => ⟨nowValue_cons h, ?_⟩, fun s h => ⟨nowValue_nil h, ?_⟩,
    fun s c a as h => ⟨answerValue_cons h, ?_⟩, fun s c h => ⟨answerValue_nil h, ?_⟩,
    fun s batch later h => ⟨arriving_cons h, ?_⟩, fun s h => ⟨arriving_nil h, ?_⟩⟩
  · simp [afterNow, h]
  · simp [afterNow, h]
  · simp [perAsk, answerValue_cons h, h]
  · simp [perAsk, answerValue_nil h, h]
  · simp [delivered, arriving_cons h, h]
  · simp [delivered, arriving_nil h, h]

/-- Settles O41: the branches of the read, and the append of a delivery. -/
theorem rxPopIsFifo : Obligations.RxPopIsFifo :=
  ⟨fun s h => by rw [rxPop, h], fun s b rest h => by rw [rxPop, h]; rfl, fun s => delivered_rx s⟩

end Sys2Proof.Proofs
end

section
/-! SUPPORT. Runs of two states side by side: a relation that every operation of the block respects is respected by the
step, and so by every run. The index counts the answers of the peripheral that the relation still vouches for: one is
spent by a CONFIGURE, one by an APPLY. -/

namespace Sys2Proof.Machine

open Sys2Proof.Safety

/-- Outcomes agree in one of three ways. -/
theorem outcomesAgree_cases {R : State → State → Prop} {o p : Outcome} (h : OutcomesAgree R o p) :
    (∃ t u, o = .next t ∧ p = .next u ∧ R t u) ∨ (∃ f, o = .fault f ∧ p = .fault f) ∨
      (∃ r, o = .refused r ∧ p = .refused r) := by
  cases o <;> cases p <;> simp_all [OutcomesAgree]

theorem outcomesAgree_imp {R S : State → State → Prop} {o p : Outcome} (h : OutcomesAgree R o p)
    (imp : ∀ t u, R t u → S t u) : OutcomesAgree S o p := by
  rcases outcomesAgree_cases h with ⟨t, u, rfl, rfl, r⟩ | ⟨f, rfl, rfl⟩ | ⟨q, rfl, rfl⟩
  · exact imp t u r
  · rfl
  · rfl

/-- The operations that a relation of states has to respect beside CONFIGURE and APPLY. -/
inductive Primitive : (State → State) → Prop
  | lineRead : Primitive lineRead
  | resetEvent : Primitive resetEvent
  | delivered : Primitive delivered
  | setRx (rest : List Byte) : Primitive (setRx rest)
  | afterNow : Primitive afterNow
  | emit (e : DiagEvent) : Primitive (emit e)
  | setPhase (p : Phase) : Primitive (setPhase p)

/-- The states are the same to every test the block makes outside CONFIGURE and APPLY. -/
structure SameTests (s u : State) : Prop where
  phase : u.phase = s.phase
  lastAppliedAt : u.lastAppliedAt = s.lastAppliedAt
  rx : u.rx = s.rx
  maxIdleTime : u.params.maxIdleTime = s.params.maxIdleTime
  resetNow : resetNow u = resetNow s
  nowValue : nowValue u = nowValue s

/-- Related states pass the same tests, and every operation of the block keeps them related. -/
structure Simulation (R : Nat → State → State → Prop) : Prop where
  weaken {n : Nat} {s u : State} : R (n + 1) s u → R n s u
  tests {n : Nat} {s u : State} : R n s u → SameTests s u
  primitive {n : Nat} {s u : State} {f : State → State} : Primitive f → R n s u → R n (f s) (f u)
  configure {n : Nat} {s u : State} : R (n + 1) s u →
    (configure u).1 = (configure s).1 ∧ R n (configure s).2 (configure u).2
  applyInRange {n : Nat} {s u : State} (level : Duty) (now : Timestamp) : R (n + 1) s u →
    (applyInRange level now u).1 = (applyInRange level now s).1 ∧
      R n (applyInRange level now s).2 (applyInRange level now u).2

variable {R : Nat → State → State → Prop} {n : Nat} {s u : State}

theorem Simulation.exec (sim : Simulation R) (h : R (n + 1) s u) (hp : s.phase = .run) (i : Instr) :
    OutcomesAgree (R n) (exec i s) (exec i u) := by
  rw [exec_run i hp, exec_run i ((sim.tests h).phase.trans hp)]
  have line : R (n + 1) (received i s) (received i u) := sim.primitive (.emit _) h
  cases i with
  | ctrl => exact sim.weaken (sim.primitive (.emit .ctrl) line)
  | ctrlRsvd x => exact sim.weaken line
  | level l =>
    rw [(sim.tests h).nowValue]
    exact (sim.applyInRange _ _ (sim.primitive .afterNow line)).2
  | levelBadpar p l => exact sim.weaken line

theorem Simulation.wdtCheck (sim : Simulation R) (h : R (n + 1) s u) (hp : s.phase = .run) :
    OutcomesAgree (R n) (wdtCheck s) (wdtCheck u) := by
  rw [wdtCheck_run hp, wdtCheck_run ((sim.tests h).phase.trans hp), (sim.tests h).maxIdleTime,
    (sim.tests h).nowValue, (sim.tests h).lastAppliedAt]
  split
  · exact (sim.applyInRange _ _ (sim.primitive .afterNow h)).2
  · exact sim.weaken (sim.primitive .afterNow h)

theorem Simulation.loopTurn (sim : Simulation R) (h : R (n + 1) s u) (hp : s.phase = .run) :
    OutcomesAgree (R n) (loopTurn s) (loopTurn u) := by
  have bytes : u.rx ++ arriving u = s.rx ++ arriving s := (sim.tests (sim.primitive .delivered h)).rx
  cases stream : s.rx ++ arriving s with
  | nil =>
    rw [loopTurn_drained hp stream, loopTurn_drained ((sim.tests h).phase.trans hp) (bytes.trans stream)]
    exact sim.wdtCheck (sim.primitive .delivered h) hp
  | cons b rest =>
    rw [loopTurn_frame stream, loopTurn_frame (bytes.trans stream)]
    exact sim.exec (sim.primitive (.setRx rest) (sim.primitive .delivered h)) hp _

theorem Simulation.startup (sim : Simulation R) (h : R (n + 2) s u) (hp : s.phase = .boot) :
    OutcomesAgree (R n) (startup s) (startup u) := by
  obtain ⟨cause, configured⟩ := sim.configure h
  rcases startup_boot hp with ⟨hs, es⟩ | ⟨hs, es⟩ <;>
    rcases startup_boot ((sim.tests h).phase.trans hp) with ⟨hu, eu⟩ | ⟨hu, eu⟩ <;> rw [es, eu]
  · exact sim.weaken configured
  · simp [cause, hs] at hu
  · simp [cause, hs] at hu
  · rw [(sim.tests configured).nowValue]
    obtain ⟨result, applied⟩ := sim.applyInRange Config.maxLevel (Machine.nowValue (Machine.configure s).2)
      (sim.primitive .afterNow configured)
    show R n (enterRun _) (enterRun _)
    rw [enterRun, enterRun, result]
    split
    · exact applied
    · exact sim.primitive (.setPhase _) applied
    · exact sim.primitive (.setPhase _) applied

/-- A step respects a simulation; it spends at most two answers. -/
theorem Simulation.step (sim : Simulation R) (h : R (n + 2) s u) : OutcomesAgree (R n) (step s) (step u) := by
  have phase := (sim.tests h).phase
  have read := sim.primitive .lineRead h
  cases line : Machine.resetNow s with
  | true =>
    rw [step_reset line, step_reset ((sim.tests h).resetNow.trans line)]
    exact sim.weaken (sim.weaken (sim.primitive .resetEvent read))
  | false =>
    have line' := (sim.tests h).resetNow.trans line
    cases hp : s.phase with
    | boot =>
      rw [step_boot hp line, step_boot (phase.trans hp) line']
      exact sim.startup read hp
    | run =>
      rw [step_run hp line, step_run (phase.trans hp) line']
      exact sim.loopTurn (sim.weaken read) hp
    | halted =>
      rw [step_halted hp line, step_halted (phase.trans hp) line']
      rfl

/-- A run of `k` steps respects a simulation that vouches for twice as many answers. -/
theorem Simulation.run (sim : Simulation R) (k : Nat) : ∀ {s u : State}, R (2 * k) s u →
    OutcomesAgree (R 0) (Host.Core.run core k s) (Host.Core.run core k u) := by
  induction k with
  | zero => exact id
  | succ k ih =>
    intro s u h
    rw [run_succ, run_succ]
    rcases outcomesAgree_cases (sim.step (n := 2 * k) h) with ⟨t, v, hs, hu, r⟩ | ⟨f, hs, hu⟩ | ⟨q, hs, hu⟩ <;>
      rw [hs, hu]
    · exact ih r
    · rfl
    · rfl

end Sys2Proof.Machine
end

section
/-! SUPPORT. No operation reads the command trace or the diagnostic trace (10_state.md R35, R36). -/

namespace Sys2Proof.Machine

/-- The states differ in the two traces only. -/
def SameButTraces (s u : State) : Prop := ∃ per diag, u = { s with per := per, diag := diag }

theorem configure_sameButTraces {s u : State} (h : SameButTraces s u) :
    (configure u).1 = (configure s).1 ∧ SameButTraces (configure s).2 (configure u).2 := by
  obtain ⟨per, diag, rfl⟩ := h
  rcases configure_cases s with ⟨hv, e⟩ | ⟨hv, ha, e⟩ | ⟨hv, ha, e⟩ <;> rw [e]
  · rw [configure_variantB (s := { s with per := per, diag := diag }) hv]
    exact ⟨rfl, _, _, rfl⟩
  · rw [configure_variantA_ok (s := { s with per := per, diag := diag }) hv ha]
    exact ⟨rfl, _, _, rfl⟩
  · rw [configure_variantA_fail (s := { s with per := per, diag := diag }) hv ha]
    exact ⟨rfl, _, _, rfl⟩

theorem applyInRange_sameButTraces {s u : State} (h : SameButTraces s u) (level : Duty) (now : Timestamp) :
    (applyInRange level now u).1 = (applyInRange level now s).1 ∧
      SameButTraces (applyInRange level now s).2 (applyInRange level now u).2 := by
  obtain ⟨per, diag, rfl⟩ := h
  rcases applyInRange_ends level now s with ⟨same, e⟩ | ⟨differs, hv, ha, e⟩ | ⟨differs, hv, ha, e⟩ |
    ⟨differs, hv, e⟩ <;> rw [e]
  · rw [applyInRange_of_eq_current (s := { s with per := per, diag := diag }) same]
    exact ⟨rfl, _, _, rfl⟩
  · rw [applyInRange_variantA_ok (s := { s with per := per, diag := diag }) differs hv ha]
    exact ⟨rfl, _, _, rfl⟩
  · rw [applyInRange_variantA_fail (s := { s with per := per, diag := diag }) differs hv ha]
    exact ⟨rfl, _, _, rfl⟩
  · rw [applyInRange_variantB (s := { s with per := per, diag := diag }) differs hv]
    exact ⟨rfl, _, _, rfl⟩

theorem simulation_sameButTraces : Simulation fun _ => SameButTraces where
  weaken := id
  tests := by
    rintro n s _ ⟨per, diag, rfl⟩
    exact ⟨rfl, rfl, rfl, rfl, rfl, rfl⟩
  primitive := by
    rintro n s _ f op ⟨per, diag, rfl⟩
    cases op <;> exact ⟨_, _, rfl⟩
  configure := configure_sameButTraces
  applyInRange level now h := applyInRange_sameButTraces h level now

end Sys2Proof.Machine
end

section
/-! SUPPORT. The two variants side by side while the peripheral of variant A answers ok (42_pwm_sequencer.md R107 to
R113). -/

namespace Sys2Proof.Machine

/-- The same device in variant B, with values for what the variants do not share: the sequencer, the command trace and
the answers. -/
def inVariantB (s : State) (seq : Seq) (irqMask : Bool) (per : List Sent) (answers : List Answer) (draws : Nat) :
    State :=
  { s with
    params := { s.params with variant := .B }
    seq := seq
    irqMask := irqMask
    per := per
    answers := answers
    answerDraws := draws }

/-- The second state is the first one in variant B, and the first one, in variant A, has `n` answers scripted, all of
its answers being ok. -/
structure HealthyPair (n : Nat) (s u : State) : Prop where
  variant : s.params.variant = .A
  enough : n ≤ s.answers.length
  healthy : ∀ x ∈ s.answers, x = .ok
  other : ∃ seq irqMask per answers draws, u = inVariantB s seq irqMask per answers draws

theorem answerValue_of_healthy {n : Nat} {s : State} (enough : n + 1 ≤ s.answers.length)
    (healthy : ∀ x ∈ s.answers, x = .ok) : answerValue s = .ok := by
  cases script : s.answers with
  | nil => simp [script] at enough
  | cons a rest =>
    rw [answerValue_cons script]
    exact healthy a (script ▸ List.mem_cons_self)

/-- What is left after one answer is asked for. -/
theorem healthy_tail {n : Nat} {answers : List Answer} (enough : n + 1 ≤ answers.length)
    (healthy : ∀ x ∈ answers, x = .ok) : n ≤ answers.tail.length ∧ ∀ x ∈ answers.tail, x = .ok :=
  ⟨by rw [List.length_tail]; omega, fun x hx => healthy x (List.mem_of_mem_tail hx)⟩

theorem configure_healthyPair {n : Nat} {s u : State} (h : HealthyPair (n + 1) s u) :
    (configure u).1 = (configure s).1 ∧ HealthyPair n (configure s).2 (configure u).2 := by
  obtain ⟨hv, enough, healthy, q, m, p, as, d, rfl⟩ := h
  obtain ⟨enough', healthy'⟩ := healthy_tail enough healthy
  rw [configure_variantA_ok hv (answerValue_of_healthy enough healthy),
    configure_variantB (s := inVariantB s q m p as d) rfl]
  exact ⟨rfl, hv, enough', healthy', _, _, _, _, _, rfl⟩

theorem applyInRange_healthyPair {n : Nat} {s u : State} (h : HealthyPair (n + 1) s u) (level : Duty)
    (now : Timestamp) :
    (applyInRange level now u).1 = (applyInRange level now s).1 ∧
      HealthyPair n (applyInRange level now s).2 (applyInRange level now u).2 := by
  obtain ⟨hv, enough, healthy, q, m, p, as, d, rfl⟩ := h
  by_cases same : level = s.current
  · rw [applyInRange_of_eq_current same, applyInRange_of_eq_current (s := inVariantB s q m p as d) same]
    exact ⟨rfl, hv, Nat.le_of_succ_le enough, healthy, _, _, _, _, _, rfl⟩
  · obtain ⟨enough', healthy'⟩ := healthy_tail enough healthy
    rw [applyInRange_variantA_ok same hv (answerValue_of_healthy enough healthy),
      applyInRange_variantB (s := inVariantB s q m p as d) same rfl]
    exact ⟨rfl, hv, enough', healthy', _, _, _, _, _, rfl⟩

theorem simulation_healthyPair : Simulation HealthyPair where
  weaken h := { h with enough := Nat.le_of_succ_le h.enough }
  tests := by
    rintro n s _ ⟨hv, enough, healthy, seq, irqMask, per, answers, draws, rfl⟩
    exact ⟨rfl, rfl, rfl, rfl, rfl, rfl⟩
  primitive := by
    rintro n s _ f op ⟨hv, enough, healthy, seq, irqMask, per, answers, draws, rfl⟩
    cases op <;> exact ⟨hv, enough, healthy, _, _, _, _, _, rfl⟩
  configure := configure_healthyPair
  applyInRange level now h := applyInRange_healthyPair h level now

theorem HealthyPair.sameButVariant {n : Nat} {s u : State} (h : HealthyPair n s u) : Safety.SameButVariant s u := by
  obtain ⟨_, _, _, _, _, _, _, _, rfl⟩ := h
  rfl

theorem inVariantB_of_sameButVariant {s u : State} (h : Safety.SameButVariant s u) (hv : u.params.variant = .B) :
    u = inVariantB s u.seq u.irqMask u.per u.answers u.answerDraws := by
  rw [Safety.SameButVariant, hv] at h
  exact h

end Sys2Proof.Machine
end

section
/-! PROOF. The two statements about runs of two states side by side (42_pwm_sequencer.md R107, 10_state.md R35, R36). -/

namespace Sys2Proof.Proofs

open Sys2Proof Sys2Proof.Machine Sys2Proof.Safety

/-- Settles O33: while the answers are ok, being the same device in the other variant is a simulation. -/
theorem variantsAgree : Obligations.VariantsAgree := fun k a b ha hb same enough healthy =>
  have pair : HealthyPair (2 * k) a b :=
    ⟨ha, enough, healthy, _, _, _, _, _, inVariantB_of_sameButVariant same hb⟩
  outcomesAgree_imp (simulation_healthyPair.run k pair) fun _ _ => HealthyPair.sameButVariant

/-- Settles O57: differing in the traces only is a simulation. -/
theorem tracesNeverRead : Obligations.TracesNeverRead := fun k s per diag =>
  have differ : SameButTraces s { s with per := per, diag := diag } := ⟨per, diag, rfl⟩
  outcomesAgree_imp (simulation_sameButTraces.run k differ) fun _ _ ⟨_, _, e⟩ => e ▸ rfl

end Sys2Proof.Proofs
end

section
/-! SUPPORT. LOOP_ITER one poll of the stream at a time (45_scheduler_loop.md R150, R152). -/

namespace Sys2Proof.Machine

theorem loopIter_drained {s : State} (hp : s.phase = .run) (h : s.rx ++ arriving s = []) (n : Nat) :
    loopIter (n + 1) s = some (wdtCheck (delivered s)) := by
  have drained : rxPop (delivered s) = (none, delivered s) := by rw [rxPop, delivered_rx, h]
  rw [loopIter, drained]
  exact congrArg some (checkAndYield_run (s := delivered s) hp)

/-- A frame of the drain answers a next state; the drain goes on from it unless it halted. -/
theorem loopIter_frame {s u : State} {b : Byte} {rest : List Byte} (h : s.rx ++ arriving s = b :: rest)
    (frame : exec (decode b) (setRx rest (delivered s)) = .next u) (n : Nat) :
    loopIter (n + 1) s = if u.phase = .halted then some (.next u) else loopIter n u := by
  have popped : rxPop (delivered s) = (some b, setRx rest (delivered s)) := by rw [rxPop, delivered_rx, h]
  rw [loopIter, popped]
  simp only [decodeByte, frame]

/-- A frame ends in `RUN` or in `HALTED`, and leaves the reset line alone. -/
theorem exec_phase_resetIn {i : Instr} {s t : State} (h : exec i s = .next t) :
    (t.phase = .run ∨ t.phase = .halted) ∧ t.resetIn = s.resetIn := by
  have inRun := exec_next_phase h
  rw [exec_run i inRun] at h
  cases i with
  | ctrl => cases h; exact ⟨.inl inRun, rfl⟩
  | ctrlRsvd x => cases h; exact ⟨.inl inRun, rfl⟩
  | level l =>
    cases h
    refine ⟨?_, applyInRange_resetIn _ _ _⟩
    have moves := applyInRange_phase_or_halted (zext16 l) (nowValue s) (afterNow (received (.level l) s))
    exact moves.imp_left fun same => same.trans inRun
  | levelBadpar p l => cases h; exact ⟨.inl inRun, rfl⟩

theorem step_of_resetIn_nil {s : State} (hp : s.phase = .run) (h : s.resetIn = []) : step s = loopTurn s := by
  have read : lineRead s = s := by
    cases s
    cases h
    rfl
  rw [step_run hp (by rw [resetNow, h]; rfl), read]

theorem run_one (s : State) : Host.Core.run core 1 s = step s := by
  rw [run_succ]
  cases step s <;> rfl

end Sys2Proof.Machine
end

section
/-! PROOF. The scheduler loop (45_scheduler_loop.md R150 to R157). -/

namespace Sys2Proof.Proofs

open Sys2Proof Sys2Proof.Machine

/-- Settles O58, by induction on the polls: the drained poll is the last step, a frame is the first step of the rest. -/
theorem loopIterationIsSteps : Obligations.LoopIterationIsSteps := by
  intro n
  induction n with
  | zero =>
    intro s o _ _ ends
    simp [loopIter] at ends
  | succ n ih =>
    intro s o hp noReset ends
    cases stream : s.rx ++ arriving s with
    | nil =>
      rw [loopIter_drained hp stream] at ends
      refine ⟨1, le_rfl, Nat.le_add_left 1 n, ?_⟩
      rw [run_one, step_of_resetIn_nil hp noReset, loopTurn_drained hp stream]
      exact Option.some.inj ends
    | cons b rest =>
      obtain ⟨u, frame⟩ : ∃ u, exec (decode b) (setRx rest (delivered s)) = .next u := ⟨_, exec_run _ hp⟩
      have first : step s = .next u := by rw [step_of_resetIn_nil hp noReset, loopTurn_frame stream, frame]
      obtain ⟨phase, line⟩ := exec_phase_resetIn frame
      rw [loopIter_frame stream frame] at ends
      split at ends
      next halted =>
        refine ⟨1, le_rfl, Nat.le_add_left 1 n, ?_⟩
        rw [run_one, first]
        exact Option.some.inj ends
      next notHalted =>
        obtain ⟨k, _, le, rest⟩ := ih u o (phase.resolve_right notHalted) (line.trans noReset) ends
        refine ⟨k + 1, Nat.le_add_left 1 k, Nat.succ_le_succ le, ?_⟩
        rw [run_succ, first]
        exact rest

/-- Settles O59: the frame stamps the state, so the check of the next poll measures from the frame's sample. -/
theorem bufferedFrameBeatsDeadline : Obligations.BufferedFrameBeatsDeadline := by
  intro l s t1 t2 later batches hp rx arrivals times inTime
  have stream : s.rx ++ arriving s = [enc l] := by rw [rx, arriving_cons arrivals, List.append_nil]
  obtain ⟨u, hu⟩ : ∃ u, u = (applyInRange (zext16 l) (nowValue s)
    (afterNow (received (.level l) (setRx [] (delivered s))))).2 := ⟨_, rfl⟩
  have frame : exec (decode (enc l)) (setRx [] (delivered s)) = .next u := by
    rw [decode_eq_level_iff.mpr rfl, hu]
    exact exec_run (.level l) hp
  have current : u.current = zext16 l := by rw [hu, applyInRange_current]
  have stamped : u.lastAppliedAt = t1 := by rw [hu, applyInRange_lastAppliedAt, nowValue_cons times]
  have drained : u.rx ++ arriving u = [] := by
    have left : u.arrivals = [] :: batches := by rw [hu, applyInRange_arrivals]; exact congrArg List.tail arrivals
    rw [arriving_cons left, hu, applyInRange_rx]
    rfl
  have sample : nowValue u = t2 := nowValue_cons (ts := later) (by
    rw [hu, applyInRange_times]
    exact congrArg List.tail times)
  rw [loopIter_frame stream frame]
  split
  next halted => exact ⟨u, rfl, current, stamped⟩
  next notHalted =>
    have inRun := (exec_phase_resetIn frame).1.resolve_right notHalted
    have params : u.params = s.params := by rw [hu, applyInRange_params]; rfl
    have quiet : ¬ u.params.maxIdleTime < nowValue u - u.lastAppliedAt := by
      rw [params, sample, stamped]
      exact BitVec.not_lt.mpr inTime
    rw [loopIter_drained inRun drained, wdtCheck_of_not_exceeded (s := delivered u) inRun quiet]
    exact ⟨_, rfl, current, stamped⟩

end Sys2Proof.Proofs
end

section
/-! SUPPORT. Bit flips of a byte: PAR is linear over exclusive or (40_parity_codec.md R80, R85). -/

namespace Sys2Proof.Machine

theorem par_xor (v w : Byte) : par (v ^^^ w) = par v ^^^ par w := by
  simp only [par, parInv, bitAt, BitVec.extractLsb'_xor, BitVec.xor_zero]
  ac_rfl

theorem levelField_xor (v w : Byte) : levelField (v ^^^ w) = levelField v ^^^ levelField w :=
  BitVec.extractLsb'_xor

/-- A byte is accepted when its seven low bits have an even number of ones (R85, R86). -/
theorem chk_iff_par_eq_zero (b : Byte) : chk b = true ↔ par b = 0#1 := by
  have split : par b = parityFlag b ^^^ par (b &&& 0x3F#8) := by
    have flag : parityFlag b = BitVec.ofBool (b.getLsbD 6) := bitAt_eq_ofBool b 6
    simp [par_eq_ofBool_xor, flag]
  rw [chk, beq_iff_eq, split]
  generalize parityFlag b = p, par (b &&& 0x3F#8) = q
  revert p q
  decide

theorem par_twoPow (i : Fin 7) : par (BitVec.twoPow 8 i) = 1#1 := by
  revert i
  decide

theorem levelField_two_flips_ne_zero {i j : Fin 7} (h : i ≠ j) :
    levelField (BitVec.twoPow 8 i ^^^ BitVec.twoPow 8 j) ≠ 0#6 := by
  revert i j
  decide

/-- Bit 7 tells a control-format byte from a level-format one (R60, R126). -/
theorem isControl_decode (b : Byte) : (decode b).isControl = b.getLsbD 7 := by
  rcases decode_cases b with ⟨h, _, e⟩ | ⟨h, _, e⟩ | ⟨h, _, e⟩ | ⟨h, _, e⟩
  · rw [e, (requestBit_eq_one_iff b).mp h]; rfl
  · rw [e, (requestBit_eq_one_iff b).mp h]; rfl
  · rw [e, (requestBit_eq_zero_iff b).mp h]; rfl
  · rw [e, (requestBit_eq_zero_iff b).mp h]; rfl

end Sys2Proof.Machine
end

section
/-! PROOF. Decode and encode (30_encoding.md R60 to R70, 40_parity_codec.md R88). -/

namespace Sys2Proof.Proofs

open Sys2Proof Sys2Proof.Machine

/-- Settles O2: the fields of each class read back from its byte. -/
theorem decodeOfEncode : Obligations.DecodeOfEncode := fun _ => decode_encode

/-- Settles O3: decoding is the inverse of encoding on well-formed frames. -/
theorem encodeOfDecode : Obligations.EncodeOfDecode := fun b =>
  ⟨wf_decode b, encode_decode b, fun _ hw he => (decode_eq_iff.mpr ⟨hw, he⟩).symm⟩

/-- Settles O4, by running the decoder on the eight bytes. -/
theorem specWordsDecode : Obligations.SpecWordsDecode := by
  unfold Obligations.SpecWordsDecode
  decide

/-- Settles O9: every line but `.byte` emits the byte of a well-formed frame. -/
theorem assemblerLines : Obligations.AssemblerLines :=
  ⟨fun n => ⟨rfl, decode_encode (i := .level n) rfl⟩, rfl, decode_encode (i := .ctrl) rfl,
    fun p n wrong => decode_encode (i := .levelBadpar p n) (bne_iff_ne.mpr wrong),
    fun x notZero => decode_encode (i := .ctrlRsvd x) (bne_iff_ne.mpr notZero), fun _ => rfl⟩

/-- Settles O8: each flip among the seven low bits changes PAR, two of them restore it and change the level field, since
at most one of the two is the parity bit. -/
theorem flipsOfAcceptedBytes : Obligations.FlipsOfAcceptedBytes := by
  intro b top accepted
  have even : par b = 0#1 := (chk_iff_par_eq_zero b).mp accepted
  refine ⟨fun i => ?one, fun i j distinct => ⟨?two, ?level⟩, ?control, ?ctrl⟩
  case one =>
    rw [← Bool.not_eq_true, chk_iff_par_eq_zero, par_xor, even, par_twoPow]
    decide
  case two =>
    rw [chk_iff_par_eq_zero, par_xor, par_xor, even, par_twoPow, par_twoPow]
    decide
  case level =>
    intro same
    refine levelField_two_flips_ne_zero distinct ?_
    have unchanged : levelField b ^^^ levelField (BitVec.twoPow 8 i ^^^ BitVec.twoPow 8 j) = levelField b := by
      rw [← levelField_xor, ← BitVec.xor_assoc]
      exact same
    simpa using unchanged
  case control =>
    rw [isControl_decode, BitVec.getLsbD_xor, top]
    rfl
  case ctrl =>
    rw [decode_eq_ctrl_iff]
    simp

end Sys2Proof.Proofs
end

section
/-! PROOF. The frame classes (43_command_decoder.md R125 to R137). -/

namespace Sys2Proof.Machine

/-- The state `APPLY` starts from in a `LEVEL` frame: the receipt line and the sample taken (R129). -/
theorem exec_level {l : Level} {s : State} (h : s.phase = .run) :
    exec (.level l) s = .next (applyInRange (zext16 l) (nowValue s) (afterNow (received (.level l) s))).2 :=
  exec_run (.level l) h

/-- Outside `RUN` no frame is enabled (R125). -/
theorem exec_disabled {s : State} (h : s.phase ≠ .run) (i : Instr) : exec i s = .fault (disabledFault s.phase) := by
  cases i <;> exact if_neg h

end Sys2Proof.Machine

namespace Sys2Proof.Proofs

open Sys2Proof Sys2Proof.Machine

/-- Settles O13: the level of a frame is in range. -/
theorem levelForwardsToApply : Obligations.LevelForwardsToApply := fun l s hs => by
  have enabled : (afterNow (received (.level l) s)).phase ≠ .halted := by simp [received, hs]
  exact ⟨_, apply_of_inRange enabled (inRange_zext16 l) _, exec_level hs, applyInRange_current _ _ _,
    applyInRange_lastAppliedAt _ _ _⟩

/-- Settles O14: the update detector sees no change. -/
theorem levelOfCurrentOnlyStamps : Obligations.LevelOfCurrentOnlyStamps := fun l s hs same => by
  rw [exec_level hs, applyInRange_of_eq_current (level := zext16 l) (s := afterNow (received (.level l) s)) same.symm]
  rfl

/-- Settles O15: the end of APPLY in variant A with the answer ok. -/
theorem levelAppliedVariantA : Obligations.LevelAppliedVariantA := fun l s hs differs hv ha => by
  rw [exec_level hs, applyInRange_variantA_ok (level := zext16 l) (s := afterNow (received (.level l) s))
    (Ne.symm differs) hv ha, dutyBits_zext16]
  refine congrArg Host.Outcome.next (State.ext_iff.mpr ?_)
  simp [received, ha, encode, zext16]

/-- Settles O16: the end of APPLY in variant A with the answer fail. -/
theorem levelWriteFailureHalts : Obligations.LevelWriteFailureHalts := fun l s hs differs hv ha => by
  rw [exec_level hs, applyInRange_variantA_fail (level := zext16 l) (s := afterNow (received (.level l) s))
    (Ne.symm differs) hv ha, dutyBits_zext16]
  refine congrArg Host.Outcome.next (State.ext_iff.mpr ?_)
  simp [received, ha, encode, zext16]

/-- Settles O17: the end of APPLY in variant B. -/
theorem levelAppliedVariantB : Obligations.LevelAppliedVariantB := fun l s hs differs hv => by
  rw [exec_level hs, applyInRange_variantB (level := zext16 l) (s := afterNow (received (.level l) s))
    (Ne.symm differs) hv, dutyBits_zext16, maskedCommands_seqOrder]
  refine congrArg Host.Outcome.next (State.ext_iff.mpr ?_)
  simp [received, encode, zext16]

/-- Settles O18: every class is enabled in `RUN` only. -/
theorem framesOnlyInRun : Obligations.FramesOnlyInRun := fun i s =>
  ⟨fun halted => by simp [exec_disabled, halted, disabledFault],
    fun boot => by simp [exec_disabled, boot, disabledFault]⟩

/-- Settles O19: the three other classes end with a report. -/
theorem nonLevelFramesKeepAll : Obligations.NonLevelFramesKeepAll := fun i s t notLevel h => by
  rw [exec_run i (exec_next_phase h)] at h
  cases i with
  | level l => exact absurd rfl (notLevel l)
  | ctrl => cases h; rfl
  | ctrlRsvd x => cases h; rfl
  | levelBadpar p l => cases h; rfl

/-- Settles O21: the receipt line is the first act of every class, and what an APPLY reports comes after it. -/
theorem receiptLineFirst : Obligations.ReceiptLineFirst := fun i s t h => by
  have inRun := exec_next_phase h
  rw [exec_run i inRun] at h
  cases i with
  | ctrl => cases h; exact ⟨[.ctrl], List.append_assoc _ _ _, .inr (.inl ⟨rfl, rfl⟩)⟩
  | ctrlRsvd x => cases h; exact ⟨[], rfl, .inl rfl⟩
  | levelBadpar p l => cases h; exact ⟨[], rfl, .inl rfl⟩
  | level l =>
    cases h
    rcases applyInRange_diag (zext16 l) (nowValue s) (afterNow (received (.level l) s)) with silent | ⟨reported, phase⟩
    · exact ⟨[], silent, .inl rfl⟩
    · rw [dutyBits_zext16] at reported
      exact ⟨[.applied l], reported.trans (List.append_assoc _ _ _), .inr (.inr ⟨l, rfl, rfl, phase.trans inRun⟩)⟩

end Sys2Proof.Proofs
end

section
/-! PROOF. The frame of LEVEL, and the laws of APPLY (41_duty_cycle_register.md R91, R94, R95, R97). -/

namespace Sys2Proof.Machine

theorem programCount_eq_length (trace : List Sent) : programCount trace = (trace.filterMap dutyOf).length :=
  List.length_filterMap_eq_countP.symm

/-- One PROGRAM per APPLY of another level (R97). -/
theorem programCount_applyInRange (level : Duty) (now : Timestamp) (s : State) :
    programCount (applyInRange level now s).2.per = programCount s.per + (if level = s.current then 0 else 1) := by
  split
  next same => rw [same, applyInRange_of_current, stamp_per, Nat.add_zero]
  next differs =>
    rw [programCount_eq_length, filterMap_dutyOf_applyInRange differs, List.length_append, programCount_eq_length]
    rfl

/-- An APPLY only appends to the diagnostic trace. -/
theorem diag_isPrefix_applyInRange (level : Duty) (now : Timestamp) (s : State) :
    s.diag <+: (applyInRange level now s).2.diag := by
  rcases applyInRange_diag level now s with e | ⟨e, _⟩ <;> rw [e]
  exact ⟨_, rfl⟩

end Sys2Proof.Machine

namespace Sys2Proof.Proofs

open Sys2Proof Sys2Proof.Machine

/-- Settles O20: what APPLY leaves alone, its traces, and what its variant or an equal level adds to that. -/
theorem levelFrameKeeps : Obligations.LevelFrameKeeps := fun l s t h => by
  have inRun := exec_next_phase h
  obtain ⟨moves, -⟩ := exec_phase_resetIn h
  rw [exec_level inRun] at h
  obtain ⟨u, hu⟩ : ∃ u, u = afterNow (received (.level l) s) := ⟨_, rfl⟩
  obtain rfl : (applyInRange (zext16 l) (nowValue s) u).2 = t := by
    rw [hu]
    exact Host.Outcome.next.inj h
  refine ⟨State.ext_iff.mpr ?registers, moves, ?per, ?diag, fun hv => ?variantA, fun hv => ?variantB,
    fun same => ?equal⟩
  case registers => simp [hu, received, zext16]
  case per =>
    obtain ⟨sent, e⟩ := applyInRange_per (zext16 l) (nowValue s) u
    exact ⟨sent, by rw [e, hu]; rfl⟩
  case diag =>
    have line : s.diag <+: u.diag := ⟨[.rx (encode (.level l))], by rw [hu]; rfl⟩
    exact line.trans (diag_isPrefix_applyInRange _ _ _)
  case variantA =>
    obtain ⟨seq, mask⟩ := applyInRange_seq_variantA (s := u) (by rw [hu]; exact hv) (zext16 l) (nowValue s)
    exact ⟨by rw [seq, hu]; rfl, by rw [mask, hu]; rfl⟩
  case variantB =>
    have hb : u.params.variant = .B := by rw [hu]; exact hv
    obtain ⟨answers, draws⟩ := applyInRange_answers_variantB hb (zext16 l) (nowValue s)
    refine ⟨?_, by rw [answers, hu]; rfl, by rw [draws, hu]; rfl⟩
    rw [applyInRange_phase_variantB hb, hu]
    exact inRun
  case equal =>
    have current : zext16 l = u.current := by rw [hu]; exact same.symm
    rw [applyInRange_of_eq_current current, hu]
    exact ⟨inRun, rfl, rfl, rfl, rfl, rfl⟩

/-- Settles O23: the range check comes before every write. -/
theorem applyOutOfRangeFaults : Obligations.ApplyOutOfRangeFaults := fun level now s hs above => by
  have outside : ¬ inRange level = true := fun within => BitVec.not_lt.mpr ((inRange_iff level).mp within) above
  rw [apply, if_neg hs, if_neg outside]

/-- Settles O26: another level ends as PROGRAM answers, on the state with the two registers written. -/
theorem applyUpdatesInOrder : Obligations.ApplyUpdatesInOrder := by
  intro level now s hs le differs p
  have result := apply_of_le hs le now
  refine ⟨fun ok => ?reported, fun failed => ?halted⟩
  case reported =>
    have answer : program (dutyBits level) (setCurrent level (stamp now s)) = (.ok, p.2) := Prod.ext ok rfl
    rw [result, applyInRange_of_program_ok differs answer]
    rfl
  case halted =>
    have answer : program (dutyBits level) (setCurrent level (stamp now s)) = (.fail, p.2) := Prod.ext failed rfl
    refine ⟨_, result, applyInRange_current _ _ _, ?_⟩
    rw [applyInRange_of_program_fail differs answer]
    exact program_diag _ _

/-- Settles O27: after an APPLY `current` is its level, so the second one sees no change; the PROGRAMs are counted by
the duties they give. -/
theorem applyIsIdempotent : Obligations.ApplyIsIdempotent := by
  refine ⟨fun level t1 t2 s u r _ le first inRun => ?idempotent, fun level now s u r h => ?counted⟩
  case idempotent =>
    obtain ⟨-, -, e⟩ := apply_ok first
    have current : u.current = level := (congrArg (·.2.current) e).trans (applyInRange_current _ _ _)
    have stamped : u.lastAppliedAt = t1 := (congrArg (·.2.lastAppliedAt) e).trans (applyInRange_lastAppliedAt _ _ _)
    refine ⟨current, stamped, ?_⟩
    rw [apply_of_le (by simp [inRun]) le, ← current, applyInRange_of_current]
    rfl
  case counted =>
    obtain ⟨-, -, e⟩ := apply_ok h
    exact (congrArg (programCount ·.2.per) e).trans (programCount_applyInRange level now s)

end Sys2Proof.Proofs
end

section
/-! PROOF. The sequencer as a state machine (42_pwm_sequencer.md R111, R112). -/

namespace Sys2Proof.Machine

/-- A transition of the machine enters the next state, or leaves the sequence (R111). -/
theorem seqAdvance_enterSeq (l : Level) (s : State) (q : Seq) :
    seqAdvance l (enterSeq l s q) =
      if nextSeq q = .idle then leaveSeq (enterSeq l s q) else enterSeq l (enterSeq l s q) (nextSeq q) := by
  cases q <;> rfl

theorem seqAdvance_of_idle {s : State} (h : s.seq = .idle) (l : Level) : seqAdvance l s = enterSeq l s .sDisable := by
  rw [seqAdvance, h]
  rfl

/-- The interrupt mask is raised exactly while a sequence runs (R112). -/
def MaskedOutsideIdle (s : State) : Prop := s.irqMask = true ↔ s.seq ≠ .idle

theorem maskedOutsideIdle_seqAdvance (l : Level) (s : State) : MaskedOutsideIdle (seqAdvance l s) := by
  rw [seqAdvance]
  cases s.seq <;> simp [MaskedOutsideIdle, nextSeq]

/-- From IDLE, seven transitions are the six states of a sequence and the way back. -/
theorem iterate_seqAdvance_seven {s : State} (h : s.seq = .idle) (l : Level) :
    (seqAdvance l)^[7] s = leaveSeq (seqOrder.foldl (enterSeq l) s) := by
  simp [seqAdvance_of_idle h, seqAdvance_enterSeq, nextSeq, seqOrder]

end Sys2Proof.Machine

namespace Sys2Proof.Proofs

open Sys2Proof Sys2Proof.Machine

/-- Settles O32: both are the same sequence of states entered, and every transition leaves the mask as R112 says. -/
theorem sequencerRefinesProgram : Obligations.SequencerRefinesProgram := by
  intro l s hv idle unmasked
  refine ⟨?whole, fun k _ => ?masked⟩
  case whole =>
    rw [iterate_seqAdvance_seven idle, program_variantB hv, programB_eq, leaveSeq_foldl_enterSeq]
  case masked =>
    cases k with
    | zero => simp [idle, unmasked]
    | succ k =>
      rw [Function.iterate_succ_apply']
      exact maskedOutsideIdle_seqAdvance l _

end Sys2Proof.Proofs
end

section
/-! PROOF. The idle watchdog (44_idle_watchdog.md R140 to R148). -/

namespace Sys2Proof.Proofs

open Sys2Proof Sys2Proof.Machine

/-- Settles O35: the comparison is strict. -/
theorem watchdogQuietUpToDeadline : Obligations.WatchdogQuietUpToDeadline := fun _ hs inTime =>
  wdtCheck_of_not_exceeded hs (BitVec.not_lt.mpr inTime)

/-- Settles O37: the APPLY past the deadline is of the level of `current`. -/
theorem repeatedFallbackIsSilent : Obligations.RepeatedFallbackIsSilent := fun s hs fallback past => by
  rw [wdtCheck_of_exceeded hs past, applyInRange_of_eq_current (s := afterNow s) fallback.symm]
  rfl

/-- Settles O38: the difference of two 32-bit words, without and with a borrow. -/
theorem elapsedIsTrueTime : Obligations.ElapsedIsTrueTime := by
  refine ⟨fun T N le near => ?forward, fun now last back => ?backward⟩
  case forward =>
    rw [elapsed, BitVec.toNat_sub, BitVec.toNat_ofNat, BitVec.toNat_ofNat]
    omega
  case backward =>
    rw [elapsed, BitVec.toNat_sub]
    have less : now.toNat < last.toNat := back
    omega

/-- Settles O39: no difference exceeds the largest word, and only the difference of equal samples is 0. -/
theorem deadlineExtremes : Obligations.DeadlineExtremes := by
  refine ⟨fun s hs largest => ?never, fun s hs zero differs => ?fires, fun s hs zero same => ?equal⟩
  case never =>
    refine wdtCheck_of_not_exceeded hs ?_
    rw [largest]
    exact BitVec.not_allOnes_lt
  case fires =>
    refine ⟨_, wdtCheck_of_exceeded hs ?_, applyInRange_current _ _ _⟩
    rw [zero]
    exact (BitVec.pos_iff_ne_zero _).mpr (sub_ne_zero.mpr differs)
  case equal =>
    refine wdtCheck_of_not_exceeded hs ?_
    rw [zero, same, BitVec.sub_self]
    exact BitVec.lt_irrefl _

end Sys2Proof.Proofs
end

section
/-! SUPPORT. What each operation of a step leaves in `current` and `lastAppliedAt` (41_duty_cycle_register.md R92, R99),
and that outside `HALTED` every step answers a next state. -/

namespace Sys2Proof.Machine

theorem exists_step_next {s : State} (notHalted : s.phase ≠ .halted) : ∃ t, step s = .next t := by
  cases line : resetNow s with
  | true => exact ⟨_, step_reset line⟩
  | false =>
    cases hp : s.phase with
    | boot =>
      rw [step_boot hp line]
      rcases startup_boot (s := lineRead s) hp with ⟨_, e⟩ | ⟨_, e⟩ <;> exact ⟨_, e⟩
    | run =>
      rw [step_run hp line]
      cases stream : s.rx ++ arriving s with
      | nil => exact ⟨_, (loopTurn_drained (s := lineRead s) hp stream).trans (wdtCheck_run hp)⟩
      | cons b rest => exact ⟨_, (loopTurn_frame (s := lineRead s) stream).trans (exec_run _ hp)⟩
    | halted => exact absurd hp notHalted

theorem startup_registers {s t : State} (h : startup s = .next t) :
    (t.current = s.current ∧ t.lastAppliedAt = s.lastAppliedAt) ∨
      (t.current = 63#16 ∧ t.lastAppliedAt = nowValue (configure s).2) := by
  rcases startup_boot (enabledIn_next h).1 with ⟨_, e⟩ | ⟨_, e⟩ <;> rw [e] at h <;> cases h
  · exact .inl ⟨configure_current s, configure_lastAppliedAt s⟩
  · exact .inr ⟨by rw [enterRun_current, applyInRange_current, maxLevel_eq],
      by rw [enterRun_lastAppliedAt, applyInRange_lastAppliedAt]⟩

/-- A startup that ends in `RUN` has come to its APPLY (R187). -/
theorem startup_registers_of_run {s t : State} (h : startup s = .next t) (inRun : t.phase = .run) :
    t.current = 63#16 ∧ t.lastAppliedAt = nowValue (configure s).2 := by
  rcases startup_boot (enabledIn_next h).1 with ⟨halts, e⟩ | ⟨_, e⟩ <;> rw [e] at h <;> cases h
  · simp [configure_phase_of_halts halts] at inRun
  · exact ⟨by rw [enterRun_current, applyInRange_current, maxLevel_eq],
      by rw [enterRun_lastAppliedAt, applyInRange_lastAppliedAt]⟩

theorem exec_registers {i : Instr} {s t : State} (h : exec i s = .next t) :
    (t.current = s.current ∧ t.lastAppliedAt = s.lastAppliedAt) ∨
      ∃ l, i = .level l ∧ t.current = zext16 l ∧ t.lastAppliedAt = nowValue s := by
  rw [exec_run i (exec_next_phase h)] at h
  cases i with
  | level l => cases h; exact .inr ⟨l, rfl, applyInRange_current _ _ _, applyInRange_lastAppliedAt _ _ _⟩
  | ctrl => cases h; exact .inl ⟨rfl, rfl⟩
  | ctrlRsvd x => cases h; exact .inl ⟨rfl, rfl⟩
  | levelBadpar p l => cases h; exact .inl ⟨rfl, rfl⟩

theorem wdtCheck_registers {s t : State} (h : wdtCheck s = .next t) :
    (t.current = s.current ∧ t.lastAppliedAt = s.lastAppliedAt) ∨
      (s.params.maxIdleTime < nowValue s - s.lastAppliedAt ∧ t.current = 47#16 ∧ t.lastAppliedAt = nowValue s) := by
  have inRun := (enabledIn_next h).1
  by_cases past : s.params.maxIdleTime < nowValue s - s.lastAppliedAt
  · rw [wdtCheck_of_exceeded inRun past] at h
    cases h
    exact .inr ⟨past, applyInRange_current _ _ _, applyInRange_lastAppliedAt _ _ _⟩
  · rw [wdtCheck_of_not_exceeded inRun past] at h
    cases h
    exact .inl ⟨rfl, rfl⟩

end Sys2Proof.Machine
end

section
/-! PROOF. The step, reset and startup (45_scheduler_loop.md R150 to R158, 70_reset_and_hazards.md R185 to R190). -/

namespace Sys2Proof.Proofs

open Sys2Proof Sys2Proof.Machine Sys2Proof.Safety

/-- Settles O42: the oldest byte is popped and its frame executed. -/
theorem stepRunsDecodedFrame : Obligations.StepRunsDecodedFrame := fun s b _ hp line stream =>
  ⟨wf_decode b, (step_run hp line).trans (loopTurn_frame (s := lineRead s) stream)⟩

/-- Settles O43: an empty stream ends the drain with the watchdog check, which in `RUN` answers a next state. -/
theorem stepChecksWatchdogWhenDrained : Obligations.StepChecksWatchdogWhenDrained := fun s hp line stream => by
  have check := (step_run hp line).trans (loopTurn_drained (s := lineRead s) hp stream)
  exact ⟨check, _, check.trans (wdtCheck_run (s := delivered (lineRead s)) hp)⟩

/-- Settles O45: only the reset line lets a step out of `HALTED`. -/
theorem haltedStopsUntilReset : Obligations.HaltedStopsUntilReset := fun _ halted =>
  ⟨step_halted halted, fun line => ⟨_, step_reset line, rfl⟩⟩

/-- Settles O46: the reset event on the state with the line read. -/
theorem resetEventReinitialises : Obligations.ResetEventReinitialises := fun _ line => step_reset line

/-- Settles O47, by the definition of the reset state. -/
theorem resetValues : Obligations.ResetValues := ⟨rfl, rfl, rfl, rfl, rfl⟩

/-- Settles O56: CONFIGURE and APPLY do not halt in variant B, so no end of a step is in `HALTED`. -/
theorem variantBNeverHalts : Obligations.VariantBNeverHalts := fun s hv notHalted => by
  obtain ⟨t, h⟩ := exists_step_next notHalted
  refine ⟨t, h, ?_⟩
  cases step_effect h with
  | reset u line same => exact nofun
  | cfgFails u line inBoot same halts =>
    have inA : s.params.variant = .A := same.params ▸ (configure_halts halts).1
    simp [hv] at inA
  | started u now line inBoot same done =>
    have inB : (afterNow (configure u).2).params.variant = .B := by
      rw [afterNow_params, configure_params, same.params, hv]
    have stillBoot := phase_before_startup_apply inBoot same done
    rcases enterRun_applyInRange_phase 63#16 now stillBoot with ⟨inRun, -⟩ | ⟨-, halted⟩
    · simp [inRun]
    · rw [applyInRange_phase_variantB inB, stillBoot] at halted
      exact nomatch halted
  | quiet _ line inRun same => simp [same.phase, inRun]
  | applied u level now line inRun same le =>
    rw [applyInRange_phase_variantB (same.params ▸ hv), same.phase, inRun]
    exact nofun

/-- Settles O49: a frame applies the level of its byte, the watchdog 47, a startup 63, each at its own sample. -/
theorem onlyApplyWritesTheRegisters : Obligations.OnlyApplyWritesTheRegisters := fun s t h => by
  rcases step_cases h with ⟨line, _⟩ | ⟨_, inBoot, start⟩ | ⟨_, inRun, b, rest, stream, frame⟩ |
    ⟨_, inRun, drained, check⟩
  · exact .inr (.inl line)
  · rcases startup_registers start with same | applied
    · exact .inl same
    · exact .inr (.inr (.inl ⟨inBoot, applied⟩))
  · rcases exec_registers frame with same | ⟨l, level, current, stamped⟩
    · exact .inl same
    · obtain ⟨top, accepted⟩ := (exists_decode_eq_level_iff b).mp ⟨l, level⟩
      have field : l = levelField b := by rw [← decode_eq_level_iff.mp level, levelField_enc]
      refine .inr (.inr (.inr (.inl ⟨inRun, b, rest, stream, top, beq_iff_eq.mpr accepted, ?_, stamped⟩)))
      rw [current, field, zext16_levelField]
  · rcases wdtCheck_registers check with same | fallback
    · exact .inl same
    · exact .inr (.inr (.inr (.inr ⟨inRun, drained, fallback⟩)))

/-- Settles O40: the startup's APPLY leaves 63 and its sample, the check that follows applies 47, and in `RUN` the
output follows `current`. -/
theorem silentStartFallsBack : Obligations.SilentStartFallsBack := by
  intro s t u inBoot unset line start inRun line' drained past check
  have rangeBoot : DutyInRange s := dutyInRange_of_unset unset (by simp [inBoot])
  have followsBoot : OutputFollowsDuty s := fun h => by simp [inBoot] at h
  have follows : OutputFollowsDuty u := outputFollowsDutyKept t u (dutyRangeKept s t rangeBoot start)
    (outputFollowsDutyKept s t rangeBoot followsBoot start) check
  rw [step_boot inBoot line] at start
  obtain ⟨current, stamped⟩ := startup_registers_of_run start inRun
  have exceeded : t.params.maxIdleTime < nowValue t - t.lastAppliedAt := by
    rw [stamped]
    simpa using past
  rw [step_run inRun line', loopTurn_drained (s := lineRead t) inRun drained,
    wdtCheck_of_exceeded (s := delivered (lineRead t)) inRun exceeded] at check
  obtain rfl := Host.Outcome.next.inj check
  refine ⟨current, applyInRange_current _ _ _, applyInRange_lastAppliedAt _ _ _, fun inRunAfter => ?_⟩
  rw [(follows inRunAfter).1, applyInRange_current]
  rfl

end Sys2Proof.Proofs
end
